-- ==== Sys2Proof/Word.lean ====
section
/-! DEFINITION. The words of the bus port: bytes and lease handles (spec 0.6, R2). -/

namespace Sys2Proof

/-- One byte on the wire. -/
abbrev Byte := BitVec 8

/-- A lease handle: slot number in the low five bits, generation in the high three (R2). -/
abbrev Handle := BitVec 8

end Sys2Proof
end

