-- ==== Sys2Proof/Syntax.lean ====
section
/-! DEFINITION. The commands of the HJ2416: one constructor of `Instr` for each row of spec/opcode_table.json.
A request carries the sending seat and its parameters in the widths of the layouts of section 11.5. -/

namespace Sys2Proof

/-- The five seats (spec 0.6, R126). -/
inductive Seat where
  | s | a | b | c | d
  deriving DecidableEq, Repr

namespace Seat

/-- The wire number of a seat: 0 for S and 1 to 4 for A to D (11.5). -/
def idx : Seat → Fin 5
  | .s => 0 | .a => 1 | .b => 2 | .c => 3 | .d => 4

/-- All seats in wire order. -/
def all : List Seat := [.s, .a, .b, .c, .d]

end Seat

/-- A request frame as it stands in the request queue, with its seat (R167). -/
structure Frame where
  seat   : Seat
  code   : Byte
  params : List Byte
  deriving DecidableEq, Repr

/-- The OPEN parameters, bytes 0 to 15 (11.5, OPEN table). -/
structure OpenParams where
  terminal      : Byte
  target        : BitVec 24
  compliance    : BitVec 16
  flags         : Byte
  waitLimit     : BitVec 16
  durationCount : BitVec 16
  rampTime      : BitVec 16
  tolerance     : BitVec 16
  groupTag      : Byte
  deriving DecidableEq, Repr

/-- The ADJUST parameters (11.5): presence bit 0 target, bit 1 extension. -/
structure AdjustParams where
  handle    : Handle
  presence  : Byte
  target    : BitVec 24
  extension : BitVec 16
  deriving DecidableEq, Repr

/-- The SEAT SET parameters (11.5): presence bits 0 to 5 in the order of the fields after it. -/
structure SeatSetParams where
  seat       : Byte
  presence   : Byte
  address    : Byte
  enable     : Byte
  leaseQuota : Byte
  cellQuota  : Byte
  period     : Byte
  policy     : Byte
  deriving DecidableEq, Repr

/-- The BANK SET parameters (11.5): presence bits 0 to 3 in the order of the fields after it. -/
structure BankSetParams where
  bank     : Byte
  presence : Byte
  rail     : BitVec 16
  budget   : BitVec 16
  linger   : Byte
  enable   : Byte
  deriving DecidableEq, Repr

/-- The SCAN SET parameters (11.5). -/
structure ScanSetParams where
  averaging : Byte
  offset    : Byte
  dwell     : Byte
  mode      : Byte
  terminal  : Byte
  deriving DecidableEq, Repr

/-- The TRIP SET parameters (11.5). -/
structure TripSetParams where
  entry     : Byte
  terminal  : Byte
  condition : Byte
  threshold : BitVec 24
  armed     : Byte
  deriving DecidableEq, Repr

/-- What the converter read during a conversion (R95): N current samples in µA, N voltage samples in mV and,
with offset cancellation on, one grounded sample of each. Integer units are a DESIGN CHOICE (log 13). -/
structure Samples where
  current : List Int
  voltage : List Int
  offset  : Option (Int × Int)
  deriving DecidableEq, Repr

/-- The levels on BCNT1..0 and SADR1..0 (R33). -/
structure Straps where
  bcnt : BitVec 2
  sadr : BitVec 2
  deriving DecidableEq, Repr

/-- The commands. The first block are the requests of R131: the dispatch and handling of a frame of the seat (R167).
The second block are the rows that are no request. -/
inductive Instr where
  -- requests
  | openLease (x : Seat) (p : OpenParams)
  | adjust (x : Seat) (p : AdjustParams)
  | suspend (x : Seat) (h : Handle)
  | resume (x : Seat) (h : Handle)
  | cancel (x : Seat) (h : Handle)
  | release (x : Seat) (h : Handle)
  | query (x : Seat) (h : Handle)
  | listFirst (x : Seat) (filter : Option Byte)
  | listNext (x : Seat)
  | group (x : Seat) (tag action seat : Byte)
  | touch (x : Seat)
  | events (x : Seat) (ack : BitVec 16) (mask : Option (BitVec 16))
  | status (x : Seat)
  | seatSet (x : Seat) (p : SeatSetParams)
  | bankSet (x : Seat) (p : BankSetParams)
  | bankClear (x : Seat) (bank : Byte)
  | scanSet (x : Seat) (p : ScanSetParams)
  | scanStart (x : Seat)
  | scanStop (x : Seat)
  | cellTest (x : Seat) (bank option : Byte)
  | testAbort (x : Seat)
  | cellOut (x : Seat) (cell : Byte)
  | cellIn (x : Seat) (cell : Byte)
  | terminalSet (x : Seat) (terminal mode : Byte)
  | hold (x : Seat) (ack : Option Byte)
  | run (x : Seat)
  | tripSet (x : Seat) (p : TripSetParams)
  | tripFire (x : Seat) (entry : Byte)
  | purge (x : Seat) (h : Handle)
  | restart (x : Seat)
  | cellQuery (x : Seat) (bank : Byte)
  -- the bus port and the resets
  | writeAddress (address : BitVec 7)
  | writeEnd
  | readPage (address : BitVec 7) (count : Nat)
  | powerOnReset (straps : Straps)
  | pinReset (straps : Straps)
  -- the bank rails
  | railGoodRise (bank : Fin 4)
  | railGoodFall (bank : Fin 4)
  | wakeTimeout (bank : Fin 4)
  | lingerExpiry (bank : Fin 4)
  -- running leases, waits and lapses
  | bankOnNotice (bank : Fin 4)
  | rampStep (slot : Fin 32)
  | rampComplete (slot : Fin 32)
  | durationExpiry (slot : Fin 32)
  | waitTimerExpiry (slot : Fin 32)
  | waitExpiryNotice (h : Handle)
  | keepaliveExpiry (x : Seat)
  | lapseNotice (x : Seat)
  -- measurement, trips and self-test
  | conversionComplete (m : Samples)
  | dwellElapses
  | resultDelivery
  | faultNotice
  | scanResultMatch
  | testStepComplete (loadNanoamps : Nat)
  -- rows at the end of the table
  | writeByteReceived (byte : Byte)
  | resetHeldLow
  | durationSecond (slot : Fin 32)
  | waitSecond (slot : Fin 32)
  | keepaliveSecond (x : Seat)
  | lingerSecond (bank : Fin 4)
  deriving DecidableEq, Repr

end Sys2Proof
end

