-- ==== Sys2Proof/Decode.lean ====
section
/-! DEFINITION. Frames on the wire: request codes, parameter layouts, their lengths, the check code, and
the commands that frames stand for (spec 0.6, R165, R172, section 11.5). -/

namespace Sys2Proof

/-! ## Byte order (0.6: least significant byte first) -/

/-- The two bytes of a 16-bit field, low byte first. -/
def bytes16 (v : BitVec 16) : List Byte := [v.extractLsb' 0 8, v.extractLsb' 8 8]

/-- The three bytes of a 24-bit field, low byte first. -/
def bytes24 (v : BitVec 24) : List Byte := [v.extractLsb' 0 8, v.extractLsb' 8 8, v.extractLsb' 16 8]

/-- A 16-bit field from its bytes, low byte first. -/
def word16 (b0 b1 : Byte) : BitVec 16 := b1 ++ b0

/-- A 24-bit field from its bytes, low byte first. -/
def word24 (b0 b1 b2 : Byte) : BitVec 24 := b2 ++ b1 ++ b0

/-! ## The check code -/

/-- One bit of the CRC-8 of polynomial x^8 + x^2 + x + 1, no reflection (0.6, R165). -/
def crcShift (c : Byte) : Byte := if c.msb then (c <<< 1) ^^^ 0x07#8 else c <<< 1

/-- The CRC register after one more byte. -/
def crcByte (c b : Byte) : Byte :=
  crcShift (crcShift (crcShift (crcShift (crcShift (crcShift (crcShift (crcShift (c ^^^ b))))))))

/-- The CRC over a list of bytes, initial value 0x00, no final XOR (0.6, R165). -/
def crc8 (bs : List Byte) : Byte := bs.foldl crcByte 0#8

/-! ## Parameters of each request (11.5) -/

def OpenParams.bytes (p : OpenParams) : List Byte :=
  [p.terminal] ++ bytes24 p.target ++ bytes16 p.compliance ++ [p.flags] ++ bytes16 p.waitLimit ++
    bytes16 p.durationCount ++ bytes16 p.rampTime ++ bytes16 p.tolerance ++ [p.groupTag]

def AdjustParams.bytes (p : AdjustParams) : List Byte :=
  [p.handle, p.presence] ++ bytes24 p.target ++ bytes16 p.extension

def SeatSetParams.bytes (p : SeatSetParams) : List Byte :=
  [p.seat, p.presence, p.address, p.enable, p.leaseQuota, p.cellQuota, p.period, p.policy]

def BankSetParams.bytes (p : BankSetParams) : List Byte :=
  [p.bank, p.presence] ++ bytes16 p.rail ++ bytes16 p.budget ++ [p.linger, p.enable]

def ScanSetParams.bytes (p : ScanSetParams) : List Byte :=
  [p.averaging, p.offset, p.dwell, p.mode, p.terminal]

def TripSetParams.bytes (p : TripSetParams) : List Byte :=
  [p.entry, p.terminal, p.condition] ++ bytes24 p.threshold ++ [p.armed]

/-- The frame a request command is the handling of; none for the rows that are no request (11.5, request codes). -/
def frameOf : Instr → Option Frame
  | .openLease x p => some ⟨x, 0x10#8, p.bytes⟩
  | .adjust x p => some ⟨x, 0x11#8, p.bytes⟩
  | .suspend x h => some ⟨x, 0x12#8, [h]⟩
  | .resume x h => some ⟨x, 0x13#8, [h]⟩
  | .cancel x h => some ⟨x, 0x14#8, [h]⟩
  | .release x h => some ⟨x, 0x15#8, [h]⟩
  | .query x h => some ⟨x, 0x16#8, [h]⟩
  | .listFirst x f => some ⟨x, 0x17#8, f.toList⟩
  | .listNext x => some ⟨x, 0x18#8, []⟩
  | .group x t a n => some ⟨x, 0x19#8, [t, a, n]⟩
  | .touch x => some ⟨x, 0x1A#8, []⟩
  | .events x ack none => some ⟨x, 0x1B#8, bytes16 ack⟩
  | .events x ack (some m) => some ⟨x, 0x1B#8, bytes16 ack ++ bytes16 m⟩
  | .status x => some ⟨x, 0x1C#8, []⟩
  | .seatSet x p => some ⟨x, 0x20#8, p.bytes⟩
  | .bankSet x p => some ⟨x, 0x21#8, p.bytes⟩
  | .bankClear x b => some ⟨x, 0x22#8, [b]⟩
  | .scanSet x p => some ⟨x, 0x23#8, p.bytes⟩
  | .scanStart x => some ⟨x, 0x24#8, []⟩
  | .scanStop x => some ⟨x, 0x25#8, []⟩
  | .cellTest x b o => some ⟨x, 0x26#8, [b, o]⟩
  | .testAbort x => some ⟨x, 0x27#8, []⟩
  | .cellOut x c => some ⟨x, 0x28#8, [c]⟩
  | .cellIn x c => some ⟨x, 0x29#8, [c]⟩
  | .terminalSet x t m => some ⟨x, 0x2A#8, [t, m]⟩
  | .hold x a => some ⟨x, 0x2B#8, a.toList⟩
  | .run x => some ⟨x, 0x2C#8, []⟩
  | .tripSet x p => some ⟨x, 0x2D#8, p.bytes⟩
  | .tripFire x e => some ⟨x, 0x2E#8, [e]⟩
  | .purge x h => some ⟨x, 0x2F#8, [h]⟩
  | .restart x => some ⟨x, 0x30#8, []⟩
  | .cellQuery x b => some ⟨x, 0x31#8, [b]⟩
  | .writeAddress _ | .writeEnd | .readPage _ _ | .powerOnReset _ | .pinReset _ | .railGoodRise _
  | .railGoodFall _ | .wakeTimeout _ | .lingerExpiry _ | .bankOnNotice _ | .rampStep _ | .rampComplete _
  | .durationExpiry _ | .waitTimerExpiry _ | .waitExpiryNotice _ | .keepaliveExpiry _ | .lapseNotice _
  | .conversionComplete _ | .dwellElapses | .resultDelivery | .faultNotice | .scanResultMatch
  | .testStepComplete _ | .writeByteReceived _ | .resetHeldLow | .durationSecond _ | .waitSecond _
  | .keepaliveSecond _ | .lingerSecond _ => none

/-- The parameter lengths the request code table allows for a code; none for a code that is not in the table (R165 cases 4 and 5). -/
def allowedLengths (code : Byte) : Option (List Nat) :=
  match code.toNat with
  | 0x10 => some [16]
  | 0x11 => some [7]
  | 0x12 | 0x13 | 0x14 | 0x15 | 0x16 => some [1]
  | 0x17 => some [0, 1]
  | 0x18 => some [0]
  | 0x19 => some [3]
  | 0x1A => some [0]
  | 0x1B => some [2, 4]
  | 0x1C => some [0]
  | 0x20 | 0x21 => some [8]
  | 0x22 => some [1]
  | 0x23 => some [5]
  | 0x24 | 0x25 => some [0]
  | 0x26 => some [2]
  | 0x27 => some [0]
  | 0x28 | 0x29 => some [1]
  | 0x2A => some [2]
  | 0x2B => some [0, 1]
  | 0x2C => some [0]
  | 0x2D => some [7]
  | 0x2E | 0x2F => some [1]
  | 0x30 => some [0]
  | 0x31 => some [1]
  | _ => none

/-! ## Reading a frame -/

def readOpen : List Byte → Option OpenParams
  | [t, a0, a1, a2, c0, c1, fl, w0, w1, d0, d1, r0, r1, l0, l1, g] =>
    some ⟨t, word24 a0 a1 a2, word16 c0 c1, fl, word16 w0 w1, word16 d0 d1, word16 r0 r1, word16 l0 l1, g⟩
  | _ => none

def readAdjust : List Byte → Option AdjustParams
  | [h, p, a0, a1, a2, e0, e1] => some ⟨h, p, word24 a0 a1 a2, word16 e0 e1⟩
  | _ => none

def readSeatSet : List Byte → Option SeatSetParams
  | [n, p, a, e, l, c, k, y] => some ⟨n, p, a, e, l, c, k, y⟩
  | _ => none

def readBankSet : List Byte → Option BankSetParams
  | [n, p, r0, r1, b0, b1, l, e] => some ⟨n, p, word16 r0 r1, word16 b0 b1, l, e⟩
  | _ => none

def readScanSet : List Byte → Option ScanSetParams
  | [a, o, d, m, t] => some ⟨a, o, d, m, t⟩
  | _ => none

def readTripSet : List Byte → Option TripSetParams
  | [e, t, c, h0, h1, h2, a] => some ⟨e, t, c, word24 h0 h1 h2, a⟩
  | _ => none

/-- A layout of no parameter. -/
def read0 : List Byte → Option Unit
  | [] => some ()
  | _ => none

/-- A layout of one byte. -/
def read1 : List Byte → Option Byte
  | [b] => some b
  | _ => none

/-- A layout of two one-byte fields. -/
def read2 : List Byte → Option (Byte × Byte)
  | [a, b] => some (a, b)
  | _ => none

/-- A layout of three one-byte fields. -/
def read3 : List Byte → Option (Byte × Byte × Byte)
  | [a, b, c] => some (a, b, c)
  | _ => none

/-- A layout of one byte that may be left out (L = 0 or 1). -/
def readOptional : List Byte → Option (Option Byte)
  | [] => some none
  | [b] => some (some b)
  | _ => none

/-- The EVENTS layout: L = 2, or 4 with a new mask. -/
def readEvents : List Byte → Option (BitVec 16 × Option (BitVec 16))
  | [a0, a1] => some (word16 a0 a1, none)
  | [a0, a1, m0, m1] => some (word16 a0 a1, some (word16 m0 m1))
  | _ => none

/-- The request command a frame stands for: its code's layout (11.5); none for a code or a length the table does not hold. -/
def commandOf (f : Frame) : Option Instr :=
  let x := f.seat
  match f.code.toNat with
  | 0x10 => (readOpen f.params).map (.openLease x)
  | 0x11 => (readAdjust f.params).map (.adjust x)
  | 0x12 => (read1 f.params).map (.suspend x)
  | 0x13 => (read1 f.params).map (.resume x)
  | 0x14 => (read1 f.params).map (.cancel x)
  | 0x15 => (read1 f.params).map (.release x)
  | 0x16 => (read1 f.params).map (.query x)
  | 0x17 => (readOptional f.params).map (.listFirst x)
  | 0x18 => (read0 f.params).map fun _ => .listNext x
  | 0x19 => (read3 f.params).map fun q => .group x q.1 q.2.1 q.2.2
  | 0x1A => (read0 f.params).map fun _ => .touch x
  | 0x1B => (readEvents f.params).map fun q => .events x q.1 q.2
  | 0x1C => (read0 f.params).map fun _ => .status x
  | 0x20 => (readSeatSet f.params).map (.seatSet x)
  | 0x21 => (readBankSet f.params).map (.bankSet x)
  | 0x22 => (read1 f.params).map (.bankClear x)
  | 0x23 => (readScanSet f.params).map (.scanSet x)
  | 0x24 => (read0 f.params).map fun _ => .scanStart x
  | 0x25 => (read0 f.params).map fun _ => .scanStop x
  | 0x26 => (read2 f.params).map fun q => .cellTest x q.1 q.2
  | 0x27 => (read0 f.params).map fun _ => .testAbort x
  | 0x28 => (read1 f.params).map (.cellOut x)
  | 0x29 => (read1 f.params).map (.cellIn x)
  | 0x2A => (read2 f.params).map fun q => .terminalSet x q.1 q.2
  | 0x2B => (readOptional f.params).map (.hold x)
  | 0x2C => (read0 f.params).map fun _ => .run x
  | 0x2D => (readTripSet f.params).map (.tripSet x)
  | 0x2E => (read1 f.params).map (.tripFire x)
  | 0x2F => (read1 f.params).map (.purge x)
  | 0x30 => (read0 f.params).map fun _ => .restart x
  | 0x31 => (read1 f.params).map (.cellQuery x)
  | _ => none

/-- No row of spec/opcode_table.json gives bits, so no word spells a command (log 24). -/
def decodeTableWord (_nbits _w : Nat) : Option Instr := none

end Sys2Proof
end

