-- ==== Sys2Proof/Config.lean ====
section
/-! DEFINITION. What one board fixes, and the numbers of the part. The spec calls no result undefined, so there is no free value here. -/

namespace Sys2Proof.Config

/-- The strap levels `State.reset` was sampled with: BCNT1..0 = 11, so four banks are enabled (R33).
DESIGN CHOICE (log 7, unsafe): a board may strap fewer. -/
def resetBcnt : BitVec 2 := 3#2

/-- The strap levels `State.reset` was sampled with: SADR1..0 = 00, so seat S answers at 0x48 (R33).
DESIGN CHOICE (log 7, unsafe). -/
def resetSadr : BitVec 2 := 0#2

/-- The byte that means "no lease" (R2). -/
def noLease : Handle := 0xFF#8

/-- Steps of a ramp (R71). -/
def rampSteps : Nat := 32

/-- Places in the wait list (R60). -/
def waitPlaces : Nat := 8

/-- Places in the request queue (R167). -/
def queuePlaces : Nat := 4

/-- Clock ticks in one millisecond: every interval of the spec is a whole number of them (log 4). -/
def ticksPerMs : Nat := 32

/-- Clock ticks in one second. -/
def ticksPerSecond : Nat := 32000

/-- The wake time of a bank in milliseconds (R36, R41). -/
def wakeMs : Nat := 50

/-- The time of one self-test step in milliseconds (R143). -/
def testStepMs : Nat := 2

end Sys2Proof.Config
end

