-- ==== Sys2Proof/Machine/State.lean ====
section
/-! DEFINITION. The state of the HJ2416, block by block in the order of the table of spec 0.3, and its value after a device reset. -/

namespace Sys2Proof.Machine

open Sys2Proof

/-! ## Vocabulary of the lease record (spec 1.3) -/

/-- A range of the source cells (0.6). -/
inductive Range where
  | low | mid | high
  deriving DecidableEq, Repr

/-- The four fault kinds (R112). -/
inductive FaultKind where
  | compliance | openLoad | trimLimit | railLost
  deriving DecidableEq, Repr

/-- The fault policy of a lease (R10, R114). -/
inductive FaultPolicy where
  | suspend | close
  deriving DecidableEq, Repr

/-- Why a lease is suspended (R14). -/
inductive SuspendReason where
  | requested
  | lapsed
  | fault (kind : FaultKind)
  deriving DecidableEq, Repr

/-- Why a lease ended (R14). -/
inductive EndReason where
  | expired
  | cancelled
  | lapsed
  | purged
  | waitExpired
  | fault (kind : FaultKind)
  deriving DecidableEq, Repr

/-- The phase of STARTING (R13). -/
inductive Phase where
  | wake | ramp
  deriving DecidableEq, Repr

/-- The destination of RAMPDOWN with the reason it carries (R13, R14). -/
inductive Destination where
  | suspended (why : SuspendReason)
  | closed (why : EndReason)
  deriving DecidableEq, Repr

/-- The seven lease states with the fields that are present in that state only (1.3.8, 1.4.1).
`part` is the part-second in clock ticks: of R64 in WAITING, of R77 in ACTIVE. -/
inductive LeaseState where
  | waiting (remaining part : Nat)
  | starting (phase : Phase)
  | verifying
  | active (strike : Bool) (part : Nat)
  | rampdown (dest : Destination)
  | suspended (why : SuspendReason)
  | closed (why : EndReason)
  deriving DecidableEq, Repr

/-- The unit of a duration (R12). -/
inductive TimeUnit where
  | seconds | minutes
  deriving DecidableEq, Repr

/-- Duration and remaining, which are present together (R12). `remaining` is in seconds. -/
structure Duration where
  unit      : TimeUnit
  count     : Nat
  remaining : Nat
  deriving DecidableEq, Repr

/-- An entry of a cell list (R11). -/
structure ListedCell where
  cell    : Fin 24
  leaving : Bool
  deriving DecidableEq, Repr

/-- The allocation fields that are present together (R11); the first listed cell is the lead cell. -/
structure Allocation where
  bank     : Fin 4
  cells    : List ListedCell
  baseCode : Nat
  trim     : Int
  charge   : Nat
  deriving DecidableEq, Repr

/-- One cell of a ramp with its start and end codes (R71). -/
structure RampCell where
  cell  : Fin 24
  start : Nat
  stop  : Nat
  deriving DecidableEq, Repr

/-- A ramp in flight (R13, R71): levels in µA, the full ramp time in ms, the steps taken, and the clock ticks elapsed. -/
structure Ramp where
  fromLevel : Nat
  toLevel   : Nat
  time      : Nat
  step      : Nat
  elapsed   : Nat
  cells     : List RampCell
  deriving DecidableEq, Repr

/-- A measurement: µA and mV (R14). -/
structure Measurement where
  current : Nat
  voltage : Nat
  deriving DecidableEq, Repr

/-- A lease record (1.3). Its handle is its slot number with the slot's generation (R2), so it is not stored again. -/
structure Lease where
  owner           : Seat
  terminal        : Fin 16
  target          : Nat
  compliance      : Nat
  rampTime        : Option Nat
  tolerance       : Option Nat
  regulate        : Bool
  policy          : FaultPolicy
  waitLimit       : Nat
  tag             : Option Nat
  range           : Option Range
  alloc           : Option Allocation
  duration        : Option Duration
  state           : LeaseState
  ramp            : Option Ramp
  rampCount       : BitVec 8
  lastMeasurement : Option Measurement
  railLost        : Bool
  changed         : Bool
  deriving DecidableEq, Repr

/-- A slot of the lease table (R1). -/
structure Slot where
  gen    : Fin 8
  record : Option Lease
  deriving DecidableEq, Repr

/-! ## Request Unit (spec chapter 11) -/

/-- A response page (R168); its CRC byte is the CRC of the rest. -/
structure Page where
  status  : Byte
  code    : Byte
  payload : List Byte
  deriving DecidableEq, Repr

/-- The write in progress on the bus: its seat and the bytes counted as received (R165). -/
inductive Transaction where
  | idle
  | write (seat : Seat) (received : List Byte)
  deriving DecidableEq, Repr

structure Port where
  transaction  : Transaction
  resetLow     : Bool
  ack          : Bool
  readData     : List Byte
  requestQueue : List Frame
  pages        : Vector Page 5
  busy         : Vector Bool 5
  deriving DecidableEq, Repr

/-! ## Seat Controller (spec chapters 7 and 10) -/

/-- SUSPEND_ALL or CLOSE_ALL (R126). -/
inductive LapsePolicy where
  | suspendAll | closeAll
  deriving DecidableEq, Repr

/-- The keepalive state; remaining seconds and the part-second in clock ticks are present in ARMED only (R126, R133). -/
inductive Keepalive where
  | disarmed
  | armed (remaining part : Nat)
  | lapsed
  deriving DecidableEq, Repr

/-- The filter of a list cursor (R20). -/
inductive Filter where
  | all | changedOnly
  deriving DecidableEq, Repr

/-- A set of events, bit n for event n of 11.5. -/
abbrev EventSet := BitVec 16

/-- A seat table entry (R126). -/
structure SeatEntry where
  address      : BitVec 7
  enabled      : Bool
  leaseQuota   : Nat
  cellQuota    : Nat
  period       : Option Nat
  policy       : Option LapsePolicy
  keepalive    : Keepalive
  latched      : EventSet
  acked        : EventSet
  mask         : EventSet
  cursor       : Nat
  cursorFilter : Filter
  deriving DecidableEq, Repr

structure SeatController where
  seats     : Vector SeatEntry 5
  ackInHold : Bool
  attnLow   : Bool
  deriving DecidableEq, Repr

/-! ## Lease Engine (spec chapters 1 and 4) -/

/-- A lapse notice: the seat, and the policy in force when it was handed (R135). -/
structure LapseNotice where
  seat   : Seat
  policy : LapsePolicy
  deriving DecidableEq, Repr

/-- What a conversion was started for (R94). -/
inductive Source where
  | verify | scan
  deriving DecidableEq, Repr

/-- A delivered result (R95); the state stamp is VERIFYING for a verify and ACTIVE for a scan (R94). -/
structure Result where
  terminal  : Fin 16
  source    : Source
  handle    : Handle
  rampStamp : BitVec 8
  current   : Nat
  voltage   : Nat
  deriving DecidableEq, Repr

/-- The lease table and what other blocks have handed to the Lease Engine and it has not yet taken. -/
structure LeaseEngine where
  slots         : Vector Slot 32
  bankOnNotices : List (Fin 4)
  lapseNotices  : List LapseNotice
  results       : List Result
  deriving DecidableEq, Repr

/-! ## Allocator (spec chapters 2 and 3) -/

/-- Why a cell is out of service (R23). -/
inductive OutCause where
  | test | supervisor
  deriving DecidableEq, Repr

/-- The state of a cell table entry with its holder or cause (R23). -/
inductive CellState where
  | free
  | allotted (holder : Handle)
  | testing
  | outOfService (cause : OutCause)
  deriving DecidableEq, Repr

/-- The last test result of a cell (R23). -/
inductive TestResult where
  | untested | pass | failGain | failOffset | failLeak | incomplete
  deriving DecidableEq, Repr

/-- A cell table entry (R23) and the cell's route (R44). -/
structure CellEntry where
  state      : CellState
  lastResult : TestResult
  route      : Option (Fin 16)
  deriving DecidableEq, Repr

/-- The idle mode of a terminal (R45). -/
inductive IdleMode where
  | discharge | float
  deriving DecidableEq, Repr

/-- A terminal table entry (R45). -/
structure TerminalEntry where
  holder       : Option Handle
  idle         : IdleMode
  requested    : IdleMode
  switchClosed : Bool
  deriving DecidableEq, Repr

structure Allocator where
  cells             : Vector CellEntry 24
  committed         : Vector Nat 4
  terminals         : Vector TerminalEntry 16
  waitList          : List (Fin 32)
  waitExpiryNotices : List Handle
  deriving DecidableEq, Repr

/-! ## Cell Array (R28) -/

/-- The output code and the range of one cell (R28). -/
structure CellDrive where
  code  : Nat
  range : Range
  deriving DecidableEq, Repr

/-! ## Bank Rail Controller (spec 2.5) -/

/-- The seven bank states. Timers are in clock ticks; linger remaining is in seconds with its part-second.
`testing none` is a bank under test with its rail up, `testing (some t)` one whose wake timer still runs (R41). -/
inductive BankState where
  | disabled
  | off
  | waking (timer : Nat)
  | on
  | linger (remaining part : Nat)
  | testing (wake : Option Nat)
  | faulted
  deriving DecidableEq, Repr

/-- A bank entry (2.5.1), with its enable and rail-good pins. -/
structure Bank where
  strapEnabled : Bool
  state        : BankState
  rail         : Nat
  budget       : Nat
  lingerTime   : Nat
  driving      : Nat
  claims       : Nat
  railEnable   : Bool
  railGood     : Bool
  deriving DecidableEq, Repr

/-! ## Measurement Unit (spec chapter 5) -/

/-- The conversion in flight (R94); `timeLeft` in clock ticks follows from R95 (log 26). -/
structure Conversion where
  terminal     : Fin 16
  source       : Source
  handle       : Handle
  rampStamp    : BitVec 8
  averaging    : Nat
  offsetCancel : Bool
  timeLeft     : Nat
  deriving DecidableEq, Repr

inductive ScanMode where
  | roundRobin
  | lock (terminal : Fin 16)
  deriving DecidableEq, Repr

/-- A scan configuration (5.5.1); the dwell is in ms. -/
structure ScanConfig where
  averaging    : Nat
  offsetCancel : Bool
  dwell        : Nat
  mode         : ScanMode
  deriving DecidableEq, Repr

/-- The Measurement Unit; `dwell` is the dwell timer in clock ticks (R105). -/
structure MeasurementUnit where
  verifyQueue : List Handle
  conversion  : Option Conversion
  active      : ScanConfig
  pending     : ScanConfig
  running     : Bool
  position    : Fin 16
  dwell       : Option Nat
  visitDue    : Bool
  deriving DecidableEq, Repr

/-! ## Pool Control (spec chapter 9) -/

inductive HoldCause where
  | request
  | trip (entry : Fin 4)
  deriving DecidableEq, Repr

/-- The pool state (R149). -/
inductive PoolState where
  | run
  | hold (cause : HoldCause)
  deriving DecidableEq, Repr

inductive TripCondition where
  | fault | close | over
  deriving DecidableEq, Repr

/-- A trip table entry (R155). -/
structure TripEntry where
  terminal  : Fin 16
  condition : TripCondition
  threshold : Nat
  armed     : Bool
  fired     : Bool
  deriving DecidableEq, Repr

/-- What is handed to Pool Control: a fault notice (R113) or an applied scan result (R108). -/
inductive PoolNotice where
  | fault (terminal : Fin 16) (kind : FaultKind) (closed : Bool)
  | scan (terminal : Fin 16) (current : Nat)
  deriving DecidableEq, Repr

structure PoolControl where
  state   : PoolState
  trips   : Vector TripEntry 4
  notices : List PoolNotice
  deriving DecidableEq, Repr

/-! ## Self-Test Unit (spec chapter 8) -/

inductive TestOption where
  | retain | retestAll
  deriving DecidableEq, Repr

inductive Check where
  | gain | offset | leak
  deriving DecidableEq, Repr

/-- The cell under test and its step (R139), with whether the cell's output stage is on during the step (R143, log 30); `timeLeft` in
clock ticks. -/
structure TestStep where
  cell     : Fin 24
  range    : Range
  check    : Check
  outputOn : Bool
  timeLeft : Nat
  deriving DecidableEq, Repr

/-- The test record (R139). -/
structure TestRecord where
  bank    : Fin 4
  option  : TestOption
  cells   : List (Fin 24)
  current : Option TestStep
  abort   : Bool
  deriving DecidableEq, Repr

/-! ## The whole device -/

/-- The state of the device: one field per block of 0.3, the sampled straps (R33), and the commands that wait. -/
structure State where
  port      : Port
  seatCtl   : SeatController
  engine    : LeaseEngine
  allocator : Allocator
  cellArray : Vector CellDrive 24
  banks     : Vector Bank 4
  meas      : MeasurementUnit
  pool      : PoolControl
  selfTest  : Option TestRecord
  straps    : Straps
  pending   : List Instr
  deriving DecidableEq, Repr

/-- No command stops the device: the spec names no state in which it halts, so there is no constructor. -/
inductive Fault where
  deriving DecidableEq, Repr

/-- Why a command has no meaning. -/
inductive Refusal where
  /-- Raised by `exec` alone, for a row that has no meaning yet; safe, since the model then says nothing. -/
  | notModelled (mnemonic : String)
  deriving DecidableEq, Repr

/-! ## After a device reset -/

/-- The IDLE page (R168). -/
def Page.idle : Page := ⟨0x00#8, 0x00#8, []⟩

/-- The port after a device reset (R171). -/
def Port.reset : Port :=
  { transaction := .idle, resetLow := false, ack := false, readData := [], requestQueue := []
    pages := Vector.replicate 5 Page.idle, busy := Vector.replicate 5 false }

/-- The supervisor seat after a device reset (R127). -/
def SeatEntry.resetSupervisor (sadr : BitVec 2) : SeatEntry :=
  { address := BitVec.ofNat 7 (0x48 + sadr.toNat), enabled := true, leaseQuota := 32, cellQuota := 24
    period := none, policy := none, keepalive := .disarmed, latched := 0#16, acked := 0#16
    mask := 0x01FF#16, cursor := 0, cursorFilter := .all }

/-- A tenant seat after a device reset (R127, R158); the mask marks of events a tenant cannot receive are a DESIGN CHOICE (log 11). -/
def SeatEntry.resetTenant (address : BitVec 7) : SeatEntry :=
  { address := address, enabled := false, leaseQuota := 8, cellQuota := 6
    period := some 0, policy := some .suspendAll, keepalive := .disarmed, latched := 0#16, acked := 0#16
    mask := 0x01FF#16, cursor := 0, cursorFilter := .all }

/-- The Seat Controller after a device reset (R127, R153, R163). -/
def SeatController.reset (sadr : BitVec 2) : SeatController :=
  { seats := #v[.resetSupervisor sadr, .resetTenant 0x60#7, .resetTenant 0x61#7, .resetTenant 0x62#7, .resetTenant 0x63#7]
    ackInHold := false, attnLow := false }

/-- The Lease Engine after a device reset (R7). -/
def LeaseEngine.reset : LeaseEngine :=
  { slots := Vector.replicate 32 ⟨0, none⟩, bankOnNotices := [], lapseNotices := [], results := [] }

/-- The Allocator after a device reset (R23, R32, R44, R45, R60). -/
def Allocator.reset : Allocator :=
  { cells := Vector.replicate 24 ⟨.free, .untested, none⟩, committed := Vector.replicate 4 0
    terminals := Vector.replicate 16 ⟨none, .discharge, .discharge, true⟩, waitList := [], waitExpiryNotices := [] }

/-- A bank after a device reset (R33); its rail-good input is as the board drives it. -/
def Bank.reset (bcnt : BitVec 2) (railGood : Bool) (b : Fin 4) : Bank :=
  let enabled := decide (b.val ≤ bcnt.toNat)
  { strapEnabled := enabled, state := if enabled then .off else .disabled, rail := 12000, budget := 4000, lingerTime := 5
    driving := 0, claims := 0, railEnable := false, railGood := railGood }

/-- The scan configuration after a device reset (R102). -/
def ScanConfig.reset : ScanConfig := { averaging := 2, offsetCancel := true, dwell := 10, mode := .roundRobin }

/-- The Measurement Unit after a device reset (R94, R97, R102). -/
def MeasurementUnit.reset : MeasurementUnit :=
  { verifyQueue := [], conversion := none, active := .reset, pending := .reset, running := true, position := 15
    dwell := none, visitDue := true }

/-- Pool Control after a device reset (R149, R155). -/
def PoolControl.reset : PoolControl :=
  { state := .run, trips := Vector.replicate 4 ⟨0, .fault, 0, false, false⟩, notices := [] }

/-- The device after a device reset that sampled `straps`, with the rail-good levels `good` on the board and the
commands `pending` still waiting (R7, R23, R28, R33, R45, R60, R94, R102, R127, R139, R149, R155, R158, R171). -/
def State.afterReset (straps : Straps) (good : Vector Bool 4) (pending : List Instr) : State :=
  { port := .reset, seatCtl := .reset straps.sadr, engine := .reset, allocator := .reset
    cellArray := Vector.replicate 24 ⟨0, .low⟩
    banks := #v[Bank.reset straps.bcnt good[0] 0, Bank.reset straps.bcnt good[1] 1,
      Bank.reset straps.bcnt good[2] 2, Bank.reset straps.bcnt good[3] 3]
    meas := .reset, pool := .reset, selfTest := none, straps := straps, pending := pending }

/-- The machine right after reset. The strap levels (log 7) and the rail-good levels (log 8) are DESIGN CHOICES. -/
def State.reset : State :=
  State.afterReset ⟨Config.resetBcnt, Config.resetSadr⟩ (Vector.replicate 4 false) []

end Sys2Proof.Machine
end

