-- ==== Sys2Proof/Machine/Arith.lean ====
section
/-! DEFINITION. The arithmetic of currents, codes, charges and times (R10, R12, R29 to R31, R71, R95, R143). -/

namespace Sys2Proof.Machine

/-- `a / b` rounded upward (0.6). -/
def ceilDiv (a b : Nat) : Nat := (a + b - 1) / b

/-- `a / b` rounded to the nearest integer, halves upward (0.6). -/
def roundDiv (a b : Nat) : Nat := (2 * a + b) / (2 * b)

/-- `a / b` rounded to the nearest integer, halves upward, for a signed dividend. -/
def roundDivInt (a : Int) (b : Nat) : Int := (2 * a + b) / (2 * b)

/-- The full scale of a range in µA (0.6). -/
def Range.fullScale : Range → Nat
  | .low => 5000 | .mid => 25000 | .high => 100000

/-- The range a target gets at admission (R29). -/
def chooseRange (target : Nat) : Range :=
  if target ≤ 5000 then .low else if target ≤ 25000 then .mid else .high

/-- The cell count of a target in a range: ceil(target / FS), and at least 1 (R29). At admission LOW and MID give 1. -/
def cellCount (r : Range) (target : Nat) : Nat := max 1 (ceilDiv target r.fullScale)

/-- The cell count of a target in the range R29 chooses for it. -/
def admissionCells (target : Nat) : Nat := cellCount (chooseRange target) target

/-- The base code: round(target × 4095 / (n × FS)) (R29). -/
def baseCodeOf (r : Range) (n target : Nat) : Nat := roundDiv (target * 4095) (n * r.fullScale)

/-- The lead cell's code: base code + trim, clamped to 0 to 4095 (R30). -/
def leadCode (base : Nat) (trim : Int) : Nat := (max 0 (min 4095 ((base : Int) + trim))).toNat

/-- The charge: ceil(target × rail / 1 000 000) mW (R31). -/
def chargeOf (target rail : Nat) : Nat := ceilDiv (target * rail) 1000000

/-- The current of cells of one range that carry codes of this sum, to the nearest µA with halves upward (R71). -/
def levelOf (r : Range) (codes : Nat) : Nat := roundDiv (codes * r.fullScale) 4095

/-- A cell's code at step `k` of a ramp: start + (stop − start) × k / 32, rounded to the nearest with halves upward (R71). -/
def rampCode (start stop k : Nat) : Nat :=
  (roundDivInt (32 * (start : Int) + ((stop : Int) - start) * k) 32).toNat

/-- The effective tolerance: the tolerance, or 1 % of the target rounded up and at least 10 µA (R10). -/
def effectiveTolerance (l : Lease) : Nat := l.tolerance.getD (max 10 (ceilDiv l.target 100))

/-- The seconds of a count in a unit (R5, R91). -/
def TimeUnit.toSeconds : TimeUnit → Nat → Nat
  | .seconds, n => n
  | .minutes, n => n * 60

/-- Remaining in the lease's own unit, rounded up (R12). -/
def Duration.reported (d : Duration) : Nat :=
  match d.unit with
  | .seconds => d.remaining
  | .minutes => ceilDiv d.remaining 60

/-- Milliseconds in clock ticks (log 4). -/
def msTicks (ms : Nat) : Nat := ms * Config.ticksPerMs

/-- The time remaining of a ramp in whole milliseconds, rounded up (R71). -/
def Ramp.timeRemaining (r : Ramp) : Nat := ceilDiv (msTicks r.time - r.elapsed) Config.ticksPerMs

/-- The time of a conversion in clock ticks: 2 × N samples of 250 µs, with offset cancellation 2 × (N + 1) (R95). -/
def conversionTicks (averaging : Nat) (offsetCancel : Bool) : Nat :=
  2 * (averaging + if offsetCancel then 1 else 0) * 8

/-- One figure of a conversion: samples above `cap` are taken as `cap`, their mean less the grounded sample is rounded to the
nearest with halves upward, and a negative value is reported as 0 (R95). -/
def meanSample (cap : Int) (samples : List Int) (offset : Int) : Nat :=
  let n := samples.length
  let sum := (samples.map (min cap)).foldl (· + ·) 0
  (roundDivInt (sum - n * min cap offset) n).toNat

/-- The current and voltage of a conversion from its samples; the caps are 700000 µA and 30000 mV (R95). -/
def figuresOf (m : Samples) : Measurement :=
  let offset := m.offset.getD (0, 0)
  { current := meanSample 700000 m.current offset.1, voltage := meanSample 30000 m.voltage offset.2 }

/-- The test-load current in whole µA, to the nearest with halves upward (R143); the operand is in nA (log 14). -/
def loadMicroamps (nanoamps : Nat) : Nat := roundDiv nanoamps 1000

/-- Whether a measured current passes a check of a range (R143): GAIN within ±5 % of 2048 × FS / 4095 inclusive,
OFFSET below 1 % of FS, LEAK below 0.2 % of FS. -/
def checkPasses (c : Check) (r : Range) (current : Nat) : Bool :=
  match c with
  | .gain => decide (95 * (2048 * r.fullScale) ≤ 100 * (4095 * current)) &&
      decide (100 * (4095 * current) ≤ 105 * (2048 * r.fullScale))
  | .offset => decide (100 * current < r.fullScale)
  | .leak => decide (500 * current < r.fullScale)

end Sys2Proof.Machine
end

