-- ==== Sys2Proof/Machine/Ops.lean ====
section
/-! DEFINITION. The named operations over the tables: slots and handles, seats and pages, cells and codes, banks and terminals. -/

namespace Sys2Proof.Machine

/-! ## Index lists -/

def allSlots : List (Fin 32) := List.finRange 32
def allCells : List (Fin 24) := List.finRange 24
def allBanks : List (Fin 4) := List.finRange 4
def allTerminals : List (Fin 16) := List.finRange 16
def allTrips : List (Fin 4) := List.finRange 4

/-- Bank b holds cells 6b to 6b+5 (0.6). -/
def bankOf (c : Fin 24) : Fin 4 := ⟨c.val / 6, by omega⟩

/-- The six cells of a bank, in ascending order. -/
def cellsOf (b : Fin 4) : List (Fin 24) := allCells.filter fun c => bankOf c == b

/-! ## Handles and slots (R2, R3) -/

/-- The handle of a slot at a generation (R2). -/
def handleOf (k : Fin 32) (g : Fin 8) : Handle := BitVec.ofNat 8 (g.val * 32 + k.val)

/-- The slot number of a handle: its low five bits (R2). -/
def handleSlot (h : Handle) : Fin 32 := ⟨h.toNat % 32, by omega⟩

/-- The generation of a handle: its high three bits (R2). -/
def handleGen (h : Handle) : Fin 8 := ⟨h.toNat / 32, by have := h.isLt; omega⟩

/-- A generation advances by one; it wraps from 7 to 0, for slot 31 from 6 to 0 (R2). -/
def nextGen (k : Fin 32) (g : Fin 8) : Fin 8 :=
  if k = 31 ∧ g = 6 then 0 else g + 1

namespace State

variable (s : State)

def slot (k : Fin 32) : Slot := s.engine.slots[k]

def setSlot (k : Fin 32) (x : Slot) : State :=
  { s with engine := { s.engine with slots := s.engine.slots.set k x } }

/-- The record of a slot, if it is occupied (R1). -/
def lease? (k : Fin 32) : Option Lease := (s.slot k).record

/-- Writes the record of a slot; the generation is kept. -/
def putLease (k : Fin 32) (l : Lease) : State := s.setSlot k { s.slot k with record := some l }

/-- Empties a slot and advances its generation (R6). -/
def emptySlot (k : Fin 32) : State := s.setSlot k { gen := nextGen k (s.slot k).gen, record := none }

/-- The handle the record of a slot carries (R2). -/
def handleAt (k : Fin 32) : Handle := handleOf k (s.slot k).gen

/-- The record a handle names: its slot holds a record of the same generation, and 0xFF names none (R2, R3 test 1). -/
def resolve (h : Handle) : Option (Fin 32 × Lease) :=
  if h = Config.noLease then none
  else if (s.slot (handleSlot h)).gen = handleGen h then (s.lease? (handleSlot h)).map fun l => (handleSlot h, l)
  else none

/-- The lowest-numbered empty slot (R4). -/
def emptySlot? : Option (Fin 32) := allSlots.find? fun k => (s.lease? k).isNone

/-- The table occupancy (R1). -/
def occupancy : Nat := (allSlots.filter fun k => (s.lease? k).isSome).length

/-- Whether the slot holds a record of the seat. -/
def ownedBy (x : Seat) (k : Fin 32) : Bool := (s.lease? k).any fun l => l.owner == x

/-- A seat's record count: its records in every state (R1). -/
def recordCount (x : Seat) : Nat := (allSlots.filter (s.ownedBy x)).length

/-! ## Seats and pages -/

def seat (x : Seat) : SeatEntry := s.seatCtl.seats[x.idx]

def setSeat (x : Seat) (e : SeatEntry) : State :=
  { s with seatCtl := { s.seatCtl with seats := s.seatCtl.seats.set x.idx e } }

def page (x : Seat) : Page := s.port.pages[x.idx]

def setPage (x : Seat) (p : Page) : State :=
  { s with port := { s.port with pages := s.port.pages.set x.idx p } }

def busy (x : Seat) : Bool := s.port.busy[x.idx]

def setBusy (x : Seat) (v : Bool) : State :=
  { s with port := { s.port with busy := s.port.busy.set x.idx v } }

/-- The enabled seat at a bus address (R126, R164). -/
def seatAt (address : BitVec 7) : Option Seat :=
  Seat.all.find? fun x => (s.seat x).enabled && (s.seat x).address == address

/-- Whether the pool is in HOLD (R149). -/
def held : Bool := s.pool.state != .run

/-- Whether a seat is LAPSED (R135). -/
def lapsed (x : Seat) : Bool := (s.seat x).keepalive == .lapsed

/-! ## Cells (R23, R24, R28) -/

def cell (c : Fin 24) : CellEntry := s.allocator.cells[c]

def setCell (c : Fin 24) (e : CellEntry) : State :=
  { s with allocator := { s.allocator with cells := s.allocator.cells.set c e } }

def drive (c : Fin 24) : CellDrive := s.cellArray[c]

def setDrive (c : Fin 24) (d : CellDrive) : State := { s with cellArray := s.cellArray.set c d }

def bank (b : Fin 4) : Bank := s.banks[b]

def setBank (b : Fin 4) (x : Bank) : State := { s with banks := s.banks.set b x }

/-- Changes the state of a bank. -/
def moveBank (b : Fin 4) (st : BankState) : State := s.setBank b { s.bank b with state := st }

def terminal (t : Fin 16) : TerminalEntry := s.allocator.terminals[t]

def setTerminal (t : Fin 16) (x : TerminalEntry) : State :=
  { s with allocator := { s.allocator with terminals := s.allocator.terminals.set t x } }

def committed (b : Fin 4) : Nat := s.allocator.committed[b]

def setCommitted (b : Fin 4) (n : Nat) : State :=
  { s with allocator := { s.allocator with committed := s.allocator.committed.set b n } }

end State

/-- Whether a lease state is a driving state (R15). -/
def LeaseState.driving : LeaseState → Bool
  | .starting .ramp | .verifying | .active _ _ | .rampdown _ => true
  | .waiting _ _ | .starting .wake | .suspended _ | .closed _ => false

/-- Whether a lease state is a holding state (R15). -/
def LeaseState.holding : LeaseState → Bool
  | .starting _ | .verifying | .active _ _ | .rampdown _ | .suspended _ => true
  | .waiting _ _ | .closed _ => false

/-- The holder of an ALLOTTED cell (R23). -/
def CellState.holder? : CellState → Option Handle
  | .allotted h => some h
  | _ => none

/-- Whether a bank is in TESTING. -/
def BankState.isTesting : BankState → Bool
  | .testing _ => true
  | _ => false

namespace State

variable (s : State)

/-- Whether a cell may carry a nonzero code: ALLOTTED to a lease in a driving state whose bank is ON,
or TESTING in a bank in TESTING (R28). -/
def mayDrive (c : Fin 24) : Bool :=
  match (s.cell c).state with
  | .allotted h =>
    match s.resolve h with
    | some (_, l) => l.state.driving && (s.bank (bankOf c)).state == .on
    | none => false
  | .testing => (s.bank (bankOf c)).state.isTesting
  | .free | .outOfService _ => false

/-- A code written to the Cell Array; a nonzero code for a cell that may not drive is taken as 0 (R28). -/
def writeCode (c : Fin 24) (v : Nat) : State :=
  s.setDrive c { s.drive c with code := if s.mayDrive c then v else 0 }

/-- Code 0, which needs no condition (R28). -/
def zeroCode (c : Fin 24) : State := s.setDrive c { s.drive c with code := 0 }

def writeRange (c : Fin 24) (r : Range) : State := s.setDrive c { s.drive c with range := r }

/-- A cell is added to a cell list: ALLOTTED, holder, route and range in one act; its code stays (R24). -/
def allotCell (h : Handle) (t : Fin 16) (r : Range) (c : Fin 24) : State :=
  (s.setCell c { s.cell c with state := .allotted h, route := some t }).writeRange c r

/-- A cell is removed from a cell list: code 0, FREE, no holder, no route; the last test result is kept (R24). -/
def freeCell (c : Fin 24) : State :=
  (s.zeroCode c).setCell c { s.cell c with state := .free, route := none }

def zeroCodes (cs : List (Fin 24)) : State := cs.foldl zeroCode s

def freeCells (cs : List (Fin 24)) : State := cs.foldl freeCell s

def allotCells (h : Handle) (t : Fin 16) (r : Range) (cs : List (Fin 24)) : State :=
  cs.foldl (fun s c => s.allotCell h t r c) s

/-- The FREE cells of a bank in ascending order. -/
def freeIn (b : Fin 4) : List (Fin 24) := (cellsOf b).filter fun c => (s.cell c).state == .free

/-- The free cell count of STATUS: FREE cells of banks that are not DISABLED (R23). -/
def freeCount : Nat :=
  (allCells.filter fun c => (s.cell c).state == .free && (s.bank (bankOf c)).state != .disabled).length

/-- Whether any cell of the bank is ALLOTTED. -/
def anyAllotted (b : Fin 4) : Bool := (cellsOf b).any fun c => (s.cell c).state.holder?.isSome

/-- Whether any cell of the bank is ALLOTTED or TESTING (R42). -/
def anyInUse (b : Fin 4) : Bool := s.anyAllotted b || (cellsOf b).any fun c => (s.cell c).state == .testing

/-- A seat's allotted cell count: ALLOTTED cells whose holder is a lease of the seat, leaving cells included (R53). -/
def allottedCount (x : Seat) : Nat :=
  (allCells.filter fun c => ((s.cell c).state.holder?.bind s.resolve).any fun kl => kl.2.owner == x).length

/-- The present level of a lease: the sum of its cells' contributions at the codes they carry (R71). -/
def presentLevel (l : Lease) : Nat :=
  match l.alloc with
  | none => 0
  | some a => levelOf (l.range.getD .low) ((a.cells.map fun e => (s.drive e.cell).code).foldl (· + ·) 0)

/-- A terminal is released: no holder, and the requested idle mode takes effect (R45); the switch follows in `driveOutputs`. -/
def releaseTerminal (t : Fin 16) : State :=
  s.setTerminal t { s.terminal t with holder := none, idle := (s.terminal t).requested }

end State

/-- The cells of an allocation in list order. -/
def Allocation.cellNumbers (a : Allocation) : List (Fin 24) := a.cells.map (·.cell)

/-- The cells of an allocation that carry the leaving mark. -/
def Allocation.leavingCells (a : Allocation) : List (Fin 24) := (a.cells.filter (·.leaving)).map (·.cell)

/-- The allocation without its leaving cells. -/
def Allocation.withoutLeaving (a : Allocation) : Allocation :=
  { a with cells := a.cells.filter fun e => !e.leaving }

end Sys2Proof.Machine
end

