-- ==== Sys2Proof/Machine/Flags.lean ====
section
/-! DEFINITION. Events, their latched and acknowledged marks, the attention line (spec chapter 10), and the output pins. -/

namespace Sys2Proof.Machine

/-- The nine events by bit number (11.5). -/
inductive Event where
  | started | admitted | suspended | closed | lapsed | hold | bankFault | testDone | trip
  deriving DecidableEq, Repr

/-- The bit of an event (11.5, Event set). -/
def Event.mark : Event → EventSet
  | .started => 0x0001#16 | .admitted => 0x0002#16 | .suspended => 0x0004#16
  | .closed => 0x0008#16 | .lapsed => 0x0010#16 | .hold => 0x0020#16
  | .bankFault => 0x0040#16 | .testDone => 0x0080#16 | .trip => 0x0100#16

/-- Whether a set holds an event. -/
def EventSet.has (e : EventSet) (v : Event) : Bool := (e &&& v.mark) != 0#16

/-- The edge events (10.1). -/
def edgeMarks : EventSet := 0x018F#16

/-- The bits that name no event (11.5). -/
def undefinedMarks : EventSet := 0xFE00#16

namespace State

variable (s : State)

/-- A posting of an edge event latches it at an enabled seat (R158, R159). -/
def postEdge (x : Seat) (v : Event) : State :=
  if (s.seat x).enabled then s.setSeat x { s.seat x with latched := (s.seat x).latched ||| v.mark } else s

/-- The condition of a level event arises at an enabled seat: latched, not acknowledged (R160). -/
def raiseLevel (x : Seat) (v : Event) : State :=
  if (s.seat x).enabled then
    s.setSeat x { s.seat x with latched := (s.seat x).latched ||| v.mark, acked := (s.seat x).acked &&& ~~~v.mark }
  else s

/-- The condition of a level event has ended: an acknowledged event clears, another stays latched (R160). -/
def endLevel (x : Seat) (v : Event) : State :=
  if (s.seat x).acked.has v then
    s.setSeat x { s.seat x with latched := (s.seat x).latched &&& ~~~v.mark, acked := (s.seat x).acked &&& ~~~v.mark }
  else s

/-- A seat's event set is cleared, its mask kept (R158). -/
def clearEvents (x : Seat) : State := s.setSeat x { s.seat x with latched := 0#16, acked := 0#16 }

/-- Whether some bank is FAULTED: the BANK_FAULT condition (R40, R160). -/
def anyFaulted : Bool := allBanks.any fun b => (s.bank b).state == .faulted

/-- Whether the condition of a level event holds at a seat (R160). -/
def condition (x : Seat) : Event → Bool
  | .lapsed => s.lapsed x
  | .hold => s.held
  | .bankFault => s.anyFaulted
  | .started | .admitted | .suspended | .closed | .testDone | .trip => false

/-- An acknowledgement of one level event: nothing unless latched, acknowledged while its condition holds, else cleared (R160, R162). -/
def acknowledgeLevel (x : Seat) (ack : EventSet) (v : Event) : State :=
  let e := s.seat x
  if ack.has v && e.latched.has v then
    if s.condition x v then s.setSeat x { e with acked := e.acked ||| v.mark }
    else s.setSeat x { e with latched := e.latched &&& ~~~v.mark, acked := e.acked &&& ~~~v.mark }
  else s

/-- The acknowledgements of an EVENTS request: edge events named clear, level events by `acknowledgeLevel` (R159, R160, R162). -/
def acknowledge (x : Seat) (ack : EventSet) : State :=
  let s1 := s.setSeat x { s.seat x with latched := (s.seat x).latched &&& ~~~(ack &&& edgeMarks) }
  [Event.lapsed, .hold, .bankFault].foldl (fun s v => s.acknowledgeLevel x ack v) s1

/-- A lease event is posted to the owner, and the record's changed flag is set (R17). -/
def postLease (k : Fin 32) (v : Event) : State :=
  match s.lease? k with
  | some l => (s.putLease k { l with changed := true }).postEdge l.owner v
  | none => s

/-- The HOLD condition is reported: it arises at every enabled seat (R149, R160). -/
def raiseHold : State := Seat.all.foldl (fun s x => s.raiseLevel x .hold) s

/-- The HOLD condition ends at every seat (R149, R160). -/
def endHold : State := Seat.all.foldl (fun s x => s.endLevel x .hold) s

/-- A bank has left FAULTED: the BANK_FAULT condition ends when no bank is FAULTED any longer (R160). -/
def endBankFault : State := if s.anyFaulted then s else s.endLevel .s .bankFault

/-! ## Output pins -/

/-- The events pending at a seat: latched and, for a level event, not acknowledged (R158). -/
def pendingEvents (x : Seat) : EventSet := (s.seat x).latched &&& ~~~(s.seat x).acked

/-- ATTN# is low exactly when some enabled seat has a pending event that its mask lets through (R163). -/
def attention : Bool :=
  Seat.all.any fun x => (s.seat x).enabled && (s.pendingEvents x &&& (s.seat x).mask) != 0#16

/-- The discharge switch of a terminal is closed when the idle mode in effect is DISCHARGE and the terminal has no holder or
its holder is in STARTING–WAKE or SUSPENDED (R46). -/
def switchWanted (t : Fin 16) : Bool :=
  (s.terminal t).idle == .discharge &&
    match (s.terminal t).holder with
    | none => true
    | some h =>
      match s.resolve h with
      | some (_, l) =>
        match l.state with
        | .starting .wake | .suspended _ => true
        | .waiting _ _ | .starting .ramp | .verifying | .active _ _ | .rampdown _ | .closed _ => false
      | none => false

end State

/-- RAILENb by bank state (2.5.2): high in WAKING, ON, LINGER and TESTING. -/
def BankState.railEnabled : BankState → Bool
  | .waking _ | .on | .linger _ _ | .testing _ => true
  | .disabled | .off | .faulted => false

/-- The output pins and switches follow the state at the end of every act: the discharge switches (R46), the rail enables
(2.5.2) and ATTN# (R163); log 25. -/
def State.driveOutputs (s : State) : State :=
  { s with
    allocator := { s.allocator with
      terminals := Vector.ofFn fun t => { s.terminal t with switchClosed := s.switchWanted t } }
    banks := Vector.ofFn fun b => { s.bank b with railEnable := (s.bank b).state.railEnabled }
    seatCtl := { s.seatCtl with attnLow := s.attention } }

end Sys2Proof.Machine
end

