-- ==== Sys2Proof/Machine/Rails.lean ====
section
/-! DEFINITION. The demand of a bank and the moves it causes (R35 to R39). -/

namespace Sys2Proof.Machine.State

variable (s : State)

/-- A bank's demand: driving-lease count plus wake-claim count (R35). -/
def demand (b : Fin 4) : Nat := (s.bank b).driving + (s.bank b).claims

/-- The state a bank goes to when nothing needs its rail: LINGER at its full linger time, or OFF when that is 0 (R38, R41). -/
def restState (b : Fin 4) : BankState :=
  if (s.bank b).lingerTime = 0 then .off else .linger (s.bank b).lingerTime 0

/-- A bank enters ON: with a demand it hands a bank-on notice, without one it passes on at once (R37, R38). -/
def enterOn (b : Fin 4) : State :=
  if s.demand b = 0 then s.moveBank b (s.restState b)
  else
    let s1 := s.moveBank b .on
    { s1 with engine := { s1.engine with bankOnNotices := s1.engine.bankOnNotices ++ [b] } }

/-- The demand of a bank has risen: OFF goes to WAKING with a 50 ms wake timer (R36), and with rail-good already high the wake completes
in the same act (R37); LINGER goes to ON at once (R39). -/
def demandRisen (b : Fin 4) : State :=
  match (s.bank b).state with
  | .off => if (s.bank b).railGood then s.enterOn b else s.moveBank b (.waking (msTicks Config.wakeMs))
  | .linger _ _ => s.enterOn b
  | .disabled | .waking _ | .on | .testing _ | .faulted => s

/-- The demand of a bank has fallen: at 0 a bank in ON leaves ON; other states do not move (R37, R38, R116). -/
def demandFallen (b : Fin 4) : State :=
  if s.demand b = 0 ∧ (s.bank b).state = .on then s.moveBank b (s.restState b) else s

/-- Entry to STARTING–WAKE (R35). -/
def raiseClaim (b : Fin 4) : State :=
  (s.setBank b { s.bank b with claims := (s.bank b).claims + 1 }).demandRisen b

/-- Entry to STARTING–RAMP from admission or SUSPENDED (R35). -/
def raiseDriving (b : Fin 4) : State :=
  (s.setBank b { s.bank b with driving := (s.bank b).driving + 1 }).demandRisen b

/-- STARTING–WAKE to STARTING–RAMP: one report, so the demand does not pass through 0 (R35). -/
def claimToDriving (b : Fin 4) : State :=
  s.setBank b { s.bank b with claims := (s.bank b).claims - 1, driving := (s.bank b).driving + 1 }

/-- Leaving STARTING–WAKE for SUSPENDED or CLOSED (R35). -/
def dropClaim (b : Fin 4) : State :=
  (s.setBank b { s.bank b with claims := (s.bank b).claims - 1 }).demandFallen b

/-- Entry to SUSPENDED or CLOSED from a driving state (R35). -/
def dropDriving (b : Fin 4) : State :=
  (s.setBank b { s.bank b with driving := (s.bank b).driving - 1 }).demandFallen b

/-- The report of a lease that leaves `old` for SUSPENDED or CLOSED (R16, R35). -/
def reportStop (old : LeaseState) (b : Fin 4) : State :=
  match old with
  | .starting .wake => s.dropClaim b
  | .starting .ramp | .verifying | .active _ _ | .rampdown _ => s.dropDriving b
  | .waiting _ _ | .suspended _ | .closed _ => s

end Sys2Proof.Machine.State
end

