-- ==== Sys2Proof/Machine/Ramps.lean ====
section
/-! DEFINITION. Ramps, stops and closings of one lease (R71 to R73, R78, R80 to R82). -/

namespace Sys2Proof.Machine

/-- The end codes of a ramp toward a target: base code on every cell, plus trim on the lead cell, 0 on a leaving cell (R30, R71). -/
def Allocation.targetCodes (a : Allocation) : List (Fin 24 × Nat) :=
  match a.cells with
  | [] => []
  | lead :: rest =>
    (lead.cell, if lead.leaving then 0 else leadCode a.baseCode a.trim) ::
      rest.map fun e => (e.cell, if e.leaving then 0 else a.baseCode)

/-- The end codes of a rampdown: 0 on every cell (R71). -/
def Allocation.zeroTargets (a : Allocation) : List (Fin 24 × Nat) := a.cells.map fun e => (e.cell, 0)

namespace State

variable (s : State)

/-- Writes to each cell of a ramp its code at step `k` (R71). -/
def writeRamp (cells : List RampCell) (k : Nat) : State :=
  cells.foldl (fun s c => s.writeCode c.cell (rampCode c.start c.stop k)) s

/-- A ramp of the lease starts and replaces any ramp in flight (R71, R72): from the codes the cells carry, over the full ramp time,
and the ramp count rises by one. A ramp time of 0 gives every cell its end code in the same act (R73). -/
def startRamp (k : Fin 32) (toLevel : Nat) (ends : Allocation → List (Fin 24 × Nat)) : State :=
  match s.lease? k with
  | some l =>
    match l.alloc with
    | some a =>
      let cells := (ends a).map fun e => { cell := e.1, start := (s.drive e.1).code, stop := e.2 : RampCell }
      let time := l.rampTime.getD 0
      let ramp : Ramp :=
        { fromLevel := s.presentLevel l, toLevel := toLevel, time := time
          step := if time = 0 then Config.rampSteps else 0, elapsed := 0, cells := cells }
      let s1 := s.putLease k { l with ramp := some ramp, rampCount := l.rampCount + 1 }
      if time = 0 then s1.writeRamp cells Config.rampSteps else s1
    | none => s
  | none => s

/-- A start or adjust ramp, toward the lease's target. -/
def startTargetRamp (k : Fin 32) : State :=
  match s.lease? k with
  | some l => s.startRamp k l.target Allocation.targetCodes
  | none => s

/-- A lease enters STARTING under R69: STARTING–RAMP with its start ramp when its bank is ON, else STARTING–WAKE with a claim. -/
def enterStarting (k : Fin 32) : State :=
  match s.lease? k with
  | some l =>
    match l.alloc with
    | some a =>
      if (s.bank a.bank).state = .on then
        ((s.putLease k { l with state := .starting .ramp }).raiseDriving a.bank).startTargetRamp k
      else (s.putLease k { l with state := .starting .wake }).raiseClaim a.bank
    | none => s
  | none => s

/-- A lease in STARTING–RAMP, VERIFYING or ACTIVE enters RAMPDOWN (R80). -/
def enterRampdown (k : Fin 32) (dest : Destination) : State :=
  match s.lease? k with
  | some l => (s.putLease k { l with state := .rampdown dest }).startRamp k 0 Allocation.zeroTargets
  | none => s

/-- A lease in a holding state enters CLOSED: its ramp is aborted, its codes go to 0, its cells, routes, charge and terminal are
given back, the allocation fields are removed, the range excepted, and the bank receives its report (R11, R16, R78, R82). -/
def closeHolding (k : Fin 32) (why : EndReason) : State :=
  match s.lease? k with
  | some l =>
    match l.alloc with
    | some a =>
      let s1 := s.putLease k { l with state := .closed why, ramp := none, alloc := none }
      let s2 := (s1.freeCells a.cellNumbers).setCommitted a.bank (s.committed a.bank - a.charge)
      (s2.releaseTerminal l.terminal).reportStop l.state a.bank
    | none => s.putLease k { l with state := .closed why, ramp := none }
  | none => s

/-- A lease in a holding state enters SUSPENDED at once or at the end of its rampdown: no ramp, codes 0, leaving cells freed, the
other cells, the charge, the terminal, the base code and the trim kept (R78, R81). -/
def suspendHolding (k : Fin 32) (why : SuspendReason) : State :=
  match s.lease? k with
  | some l =>
    match l.alloc with
    | some a =>
      let s1 := s.putLease k { l with state := .suspended why, ramp := none, alloc := some a.withoutLeaving }
      let s2 := (s1.zeroCodes a.cellNumbers).freeCells a.leavingCells
      s2.reportStop l.state a.bank
    | none => s.putLease k { l with state := .suspended why, ramp := none }
  | none => s

/-- A lease takes a destination (R78, R81, R82, R117). -/
def takeDestination (k : Fin 32) : Destination → State
  | .suspended why => s.suspendHolding k why
  | .closed why => s.closeHolding k why

/-- Whether taking a destination gives cells, charge or a terminal back: a closing always does, a suspension when a leaving cell
is freed (R63, R78). -/
def givesBack (k : Fin 32) : Destination → Bool
  | .closed _ => true
  | .suspended _ => ((s.lease? k).bind (·.alloc)).any fun a => !a.leavingCells.isEmpty

/-- A waiting lease closes: it leaves the wait list and its wait timer is removed; it holds nothing to free (R65, R66). -/
def closeWaiting (k : Fin 32) (why : EndReason) : State :=
  match s.lease? k with
  | some l =>
    let s1 := s.putLease k { l with state := .closed why }
    { s1 with allocator := { s1.allocator with waitList := s1.allocator.waitList.filter (· != k) } }
  | none => s

end State

/-- The lease event of a destination (R81, R82). -/
def Destination.event : Destination → Event
  | .suspended _ => .suspended
  | .closed _ => .closed

end Sys2Proof.Machine
end

