-- ==== Sys2Proof/Machine/Admission.lean ====
section
/-! DEFINITION. The admission attempt, the act of admission and the rescan of the wait list (R53 to R63). -/

namespace Sys2Proof.Machine

/-- Why an admission attempt fails, or the rail check (R52, R56). -/
inductive SubReason where
  | terminalTaken | cellQuota | noCells | overBudget | railTooLow
  deriving DecidableEq, Repr

/-- The wire code of a sub-reason (11.5); 0 is none. -/
def SubReason.code : SubReason → Byte
  | .terminalTaken => 1#8 | .cellQuota => 2#8 | .noCells => 3#8 | .overBudget => 4#8 | .railTooLow => 5#8

/-- The preference class of a bank state for admission, lower first; none when it is not eligible (R54, R55). -/
def BankState.preference : BankState → Option Nat
  | .on => some 0
  | .waking _ => some 1
  | .linger _ _ => some 2
  | .off => some 3
  | .disabled | .testing _ | .faulted => none

namespace State

variable (s : State)

/-- The rail test: rail setting minus 1000 mV at or above the compliance limit (R52, R54). -/
def railServes (b : Fin 4) (compliance : Nat) : Bool := compliance + 1000 ≤ (s.bank b).rail

/-- State, rail and cells of R54 together. -/
def candidate (l : Lease) (b : Fin 4) : Bool :=
  (s.bank b).state.preference.isSome && s.railServes b l.compliance &&
    decide (admissionCells l.target ≤ (s.freeIn b).length)

/-- The budget test of R54, with this bank's own rail setting (R31). -/
def budgetServes (l : Lease) (b : Fin 4) : Bool :=
  s.committed b + chargeOf l.target (s.bank b).rail ≤ (s.bank b).budget

/-- The chosen bank: best state class first, then the lowest number (R55). -/
def chosenBank (l : Lease) : Option (Fin 4) :=
  [0, 1, 2, 3].findSome? fun c =>
    allBanks.find? fun b => (s.bank b).state.preference == some c && s.candidate l b && s.budgetServes l b

/-- The admission attempt (R53), with the first failing condition as the sub-reason (R56). It changes nothing. -/
def attempt (l : Lease) : Except SubReason (Fin 4) :=
  if (s.terminal l.terminal).holder.isSome then .error .terminalTaken
  else if (s.seat l.owner).cellQuota < s.allottedCount l.owner + admissionCells l.target then .error .cellQuota
  else if !allBanks.any (s.candidate l) then .error .noCells
  else
    match s.chosenBank l with
    | some b => .ok b
    | none => .error .overBudget

/-- The act of admission on bank `b`: cells, charge, terminal, record, state and bank in one act (R57, R58). -/
def admitTo (k : Fin 32) (l : Lease) (b : Fin 4) : State :=
  let h := s.handleAt k
  let n := admissionCells l.target
  let r := chooseRange l.target
  let cs := (s.freeIn b).take n
  let charge := chargeOf l.target (s.bank b).rail
  let alloc : Allocation :=
    { bank := b, cells := cs.map fun c => ⟨c, false⟩, baseCode := baseCodeOf r n l.target, trim := 0, charge := charge }
  let s1 := s.allotCells h l.terminal r cs
  let s2 := s1.setCommitted b (s1.committed b + charge)
  let s3 := s2.setTerminal l.terminal { s2.terminal l.terminal with holder := some h }
  (s3.putLease k { l with range := some r, alloc := some alloc }).enterStarting k

/-- One lease of the wait list tried by a rescan: admitted when it fits, off the wait list, with ADMITTED posted; else passed over
(R57, R62). The wait list holds leases in WAITING only (R60). -/
def tryWaiting (k : Fin 32) : State :=
  match s.lease? k with
  | some l =>
    match l.state with
    | .waiting _ _ =>
      match s.attempt l with
      | .ok b =>
        let s1 := s.admitTo k l b
        let s2 := { s1 with allocator := { s1.allocator with waitList := s1.allocator.waitList.filter (· != k) } }
        s2.postLease k .admitted
      | .error _ => s
    | .starting _ | .verifying | .active _ _ | .rampdown _ | .suspended _ | .closed _ => s
  | none => s

/-- A rescan: every waiting lease, oldest first, is tried against what the earlier ones left; taken in RUN only (R62, R63). -/
def rescan : State := if s.held then s else s.allocator.waitList.foldl tryWaiting s

/-- A rescan at the end of an act that raised a trigger (R63). -/
def rescanIf (trigger : Bool) : State := if trigger then s.rescan else s

end State
end Sys2Proof.Machine
end

