-- ==== Sys2Proof/Machine/Measure.lean ====
section
/-! DEFINITION. The Measurement Unit's choice of work: verify queue, scan visits, dwell (R94 to R105). -/

namespace Sys2Proof.Machine.State

variable (s : State)

/-- A handle joins the verify queue: a handle already there keeps its place, an older handle of the same slot is removed first (R97). -/
def joinVerify (h : Handle) : State :=
  if s.meas.verifyQueue.contains h then s
  else { s with meas := { s.meas with
      verifyQueue := s.meas.verifyQueue.filter (fun q => handleSlot q != handleSlot h) ++ [h] } }

/-- Whether a verify-queue entry is valid: it names a record, and that record is in VERIFYING (R98). -/
def validEntry (h : Handle) : Bool :=
  match s.resolve h with
  | some (_, l) => l.state == .verifying
  | none => false

/-- The verify queue less the stale entries at its head (R98). -/
def freshQueue : List Handle := s.meas.verifyQueue.dropWhile fun h => !s.validEntry h

/-- A conversion starts for a lease, sampling the active averaging and offset cancellation (R94, R98, R103). -/
def startConversion (source : Source) (h : Handle) (l : Lease) : State :=
  let c := s.meas.active
  { s with meas := { s.meas with
      conversion := some
        { terminal := l.terminal, source := source, handle := h, rampStamp := l.rampCount, averaging := c.averaging
          offsetCancel := c.offsetCancel, timeLeft := conversionTicks c.averaging c.offsetCancel } } }

/-- The lease a scan visit of the terminal would measure: its holder, when in ACTIVE with no ramp in flight (R103). -/
def qualifies (t : Fin 16) : Option (Handle × Lease) :=
  match (s.terminal t).holder with
  | some h =>
    match s.resolve h with
    | some (_, l) =>
      match l.state, l.ramp with
      | .active _ _, none => some (h, l)
      | _, _ => none
    | none => none
  | none => none

/-- The terminals a visit considers, in order: from the one after the position round to the position itself, or the locked one (R103, R104). -/
def visitOrder : List (Fin 16) :=
  match s.meas.active.mode with
  | .roundRobin => allTerminals.map fun i => s.meas.position + 1 + i
  | .lock t => [t]

/-- The visit that would start (R103, R104). -/
def nextVisit : Option (Fin 16 × Handle × Lease) :=
  s.visitOrder.findSome? fun t => (s.qualifies t).map fun hl => (t, hl.1, hl.2)

/-- The unit reconsiders (R96): while converting it does nothing; else the first valid verify entry, stale ones at the head being
removed (R98); else, when RUNNING and a visit is due, a qualifying terminal (R103, R104). -/
def reconsider : State :=
  if s.meas.conversion.isSome then s
  else
    match s.freshQueue with
    | h :: rest =>
      match s.resolve h with
      | some (_, l) => { s with meas := { s.meas with verifyQueue := rest } }.startConversion .verify h l
      | none => s
    | [] =>
      let s1 := { s with meas := { s.meas with verifyQueue := [] } }
      if s.meas.running && s.meas.visitDue then
        match s.nextVisit with
        | some (t, h, l) =>
          { s1 with meas := { s1.meas with position := t, dwell := none, visitDue := false } }.startConversion .scan h l
        | none => s1
      else s1

/-- The completion of a scan conversion starts the dwell, when RUNNING, and removes a due visit (R105). -/
def startDwell : State :=
  if s.meas.running then
    { s with meas := { s.meas with dwell := some (msTicks s.meas.active.dwell), visitDue := false } }
  else s

/-- A visit is due and no dwell runs (R100, R105). -/
def makeVisitDue : State := { s with meas := { s.meas with dwell := none, visitDue := true } }

end Sys2Proof.Machine.State
end

