-- ==== Sys2Proof/Machine/Completion.lean ====
section
/-! DEFINITION. The completion of a ramp (R74, R75, R81, R82), and the zero-time ramps whose completion is due (R73). -/

namespace Sys2Proof.Machine.State

variable (s : State)

/-- The general effects of a completion (R74 steps 1 and 2): every cell carries its end code, the ramp is removed, and leaving cells
are freed and leave the list. -/
def endRamp (k : Fin 32) : State :=
  match s.lease? k with
  | some l =>
    match l.ramp, l.alloc with
    | some r, some a =>
      let s1 := s.writeRamp r.cells Config.rampSteps
      (s1.freeCells a.leavingCells).putLease k { l with ramp := none, alloc := some a.withoutLeaving }
    | _, _ => s.putLease k { l with ramp := none }
  | none => s

/-- The completion of the lease's ramp, one act (R74): a start ramp into VERIFYING with the handle joining the verify queue (R75), an
adjust ramp with the lease in ACTIVE, a rampdown into its destination with its event (R81, R82); then one rescan if anything was
given back. A lease with no ramp in flight is unchanged. -/
def completeRamp (k : Fin 32) : State :=
  match s.lease? k with
  | some l =>
    if l.ramp.isNone then s
    else
      let leaving := l.alloc.any fun a => !a.leavingCells.isEmpty
      let s1 := s.endRamp k
      match s1.lease? k with
      | some l1 =>
        match l1.state with
        | .starting .ramp =>
          (((s1.putLease k { l1 with state := .verifying }).joinVerify (s.handleAt k)).reconsider).rescanIf leaving
        | .active _ _ => s1.reconsider.rescanIf leaving
        | .rampdown d => ((s1.takeDestination k d).postLease k d.event).rescanIf (leaving || s1.givesBack k d)
        | .waiting _ _ | .starting .wake | .verifying | .suspended _ | .closed _ => s1
      | none => s1
  | none => s

/-- The lowest slot whose lease has a zero-time ramp in flight: its completion is the next event for the lease (R73). -/
def dueSlot : Option (Fin 32) := allSlots.find? fun k => ((s.lease? k).bind (·.ramp)).any fun r => r.time == 0

/-- Takes the due completions of zero-time ramps, lowest slot first, each with the outputs of its own act. -/
def settleWithin : Nat → State → State
  | 0, s => s
  | n + 1, s =>
    match s.dueSlot with
    | some k => settleWithin n (s.completeRamp k).driveOutputs
    | none => s

/-- Every due completion of a zero-time ramp is taken before the next command sees a lease (R73, log 3). A completion starts a ramp
only by admitting a waiting lease, so slots plus waiting leases bound their number. -/
def settle : State := settleWithin (32 + s.allocator.waitList.length) s

end Sys2Proof.Machine.State
end

