-- ==== Sys2Proof/Machine/Faults.lean ====
section
/-! DEFINITION. The fault path, rail loss, and the end of a self-test (R40, R113 to R119, R141 to R146). -/

namespace Sys2Proof.Machine

/-- Where the fault policy sends a faulted lease (R114). -/
def FaultPolicy.destination (p : FaultPolicy) (kind : FaultKind) : Destination :=
  match p with
  | .suspend => .suspended (.fault kind)
  | .close => .closed (.fault kind)

/-- Whether a destination is CLOSED. -/
def Destination.isClosed : Destination → Bool
  | .closed _ => true
  | .suspended _ => false

namespace State

variable (s : State)

/-- A notice is handed to Pool Control (R108, R113). -/
def handPool (n : PoolNotice) : State := { s with pool := { s.pool with notices := s.pool.notices ++ [n] } }

/-- The rail-lost mark is set, for the life of the record (R14, R118). -/
def markRailLost (k : Fin 32) : State :=
  match s.lease? k with
  | some l => s.putLease k { l with railLost := true }
  | none => s

/-- The fault path of one lease without its rescan: the stop by policy, the rail-lost mark, the event, the notice (R113 steps 1 to 4). -/
def faultLease (k : Fin 32) (kind : FaultKind) : State :=
  match s.lease? k with
  | some l =>
    let d := l.policy.destination kind
    let s1 := s.takeDestination k d
    let s2 := if kind = .railLost then s1.markRailLost k else s1
    (s2.postLease k d.event).handPool (.fault l.terminal kind d.isClosed)
  | none => s

/-- The fault path as one act, with its rescan (R113). -/
def faultPath (k : Fin 32) (kind : FaultKind) : State :=
  match s.lease? k with
  | some l => (s.faultLease k kind).rescanIf (s.givesBack k (l.policy.destination kind))
  | none => s

/-- What rail loss does to one lease of the bank, by its state (R116 to R118). -/
def railLossLease (k : Fin 32) : State :=
  match s.lease? k with
  | some l =>
    match l.state with
    | .starting _ | .verifying | .active _ _ => s.faultLease k .railLost
    | .rampdown d => ((s.takeDestination k d).markRailLost k).postLease k d.event
    | .suspended _ => s.markRailLost k
    | .waiting _ _ | .closed _ => s
  | none => s

/-- Whether rail loss makes the lease give anything back (R116, R63). -/
def railLossGivesBack (k : Fin 32) : Bool :=
  match s.lease? k with
  | some l =>
    match l.state with
    | .starting _ | .verifying | .active _ _ => s.givesBack k (l.policy.destination .railLost)
    | .rampdown d => s.givesBack k d
    | .suspended _ | .waiting _ _ | .closed _ => false
  | none => false

/-- The slots whose leases hold cells in a bank, in slot order (R116). -/
def leasesOn (b : Fin 4) : List (Fin 32) :=
  allSlots.filter fun k => ((s.lease? k).bind (·.alloc)).any fun a => a.bank == b

/-! ## The self-test -/

/-- The cells of the running test that are still TESTING go to FREE, their results as they are (R145 to R147). -/
def freeTesting (cs : List (Fin 24)) : State :=
  cs.foldl (fun s c => if (s.cell c).state = .testing then s.setCell c { s.cell c with state := .free } else s) s

/-- The cell under test is stopped without completion: code 0 and result INCOMPLETE (R145, R146). -/
def stopCellUnderTest (t : TestRecord) : State :=
  match t.current with
  | some step => (s.zeroCode step.cell).setCell step.cell { (s.zeroCode step.cell).cell step.cell with lastResult := .incomplete }
  | none => s

/-- The test ends by completion or abort (R41, R144, R145): the unit is IDLE, the bank enters LINGER or OFF, TEST_DONE is posted to
seat S, and one rescan follows in RUN. -/
def finishTest (b : Fin 4) : State :=
  let s1 := { s with selfTest := none }
  ((s1.moveBank b (s1.restState b)).postEdge .s .testDone).rescan

/-- A running test is ended early with the rail up (R145): the cell under test is INCOMPLETE, the untested cells are freed. -/
def abortTest (t : TestRecord) : State :=
  ((s.stopCellUnderTest t).freeTesting t.cells).finishTest t.bank

/-- Rail loss ends the test of the bank (R146), without the rescan, which the rail-loss act takes. -/
def loseTest (b : Fin 4) : State :=
  match s.selfTest with
  | some t =>
    if t.bank = b then
      { ((s.stopCellUnderTest t).freeTesting t.cells) with selfTest := none }.postEdge .s .testDone
    else s
  | none => s

/-- A step of the self-test starts: the range and the code of the check are written, and the output stage is off for LEAK alone
(R143, log 30). -/
def startTestStep (t : TestRecord) (c : Fin 24) (r : Range) (chk : Check) : State :=
  let s1 := { s with selfTest := some { t with
    current := some
      { cell := c, range := r, check := chk, outputOn := decide (chk ≠ Check.leak), timeLeft := msTicks Config.testStepMs } } }
  (s1.writeRange c r).writeCode c (if chk = Check.gain then 2048 else 0)

/-- The rail-up notice (R142): an aborted test ends with no cell tested, another begins with its first cell. -/
def railUpNotice (b : Fin 4) : State :=
  match s.selfTest with
  | some t =>
    if t.bank = b then
      if t.abort then s.abortTest t
      else
        match t.cells with
        | c :: _ => s.startTestStep t c .low .gain
        | [] => s.finishTest b
    else s
  | none => s

/-! ## Rail loss -/

/-- Rail loss, one act (R40, R116): FAULTED, codes 0, BANK_FAULT, the leases of the bank in slot order, the end of its test, and one
rescan at the end if anything was given back. -/
def railLoss (b : Fin 4) : State :=
  let ks := s.leasesOn b
  let trigger := ks.any s.railLossGivesBack || (s.bank b).state.isTesting
  let s1 := ((s.moveBank b .faulted).zeroCodes (cellsOf b)).raiseLevel .s .bankFault
  ((ks.foldl railLossLease s1).loseTest b).rescanIf trigger

end State
end Sys2Proof.Machine
end

