-- ==== Sys2Proof/Machine/Operands.lean ====
section
/-! DEFINITION. The parameters of each request, read and checked: `none` is what the device refuses BAD_PARAM
(R172 and the parameter check of each request's own rule). -/

namespace Sys2Proof.Machine

/-- A number as an index below `n`. -/
def index? (n v : Nat) : Option (Fin n) := if h : v < n then some ⟨v, h⟩ else none

/-- A number within a range, ends included. -/
def inRange? (lo hi v : Nat) : Option Nat := if lo ≤ v ∧ v ≤ hi then some v else none

/-- A condition the parameters must meet. -/
def require (good : Bool) : Option Unit := if good then some () else none

/-- An optional field: absent when its presence bit is clear, whatever its value (R172); else checked. -/
def optional? {α : Type} (present : Bool) (value : Option α) : Option (Option α) :=
  if present then value.map some else some none

/-- A two-valued field: 0 or 1 (11.5). -/
def choice? {α : Type} (zero one : α) (v : Byte) : Option α :=
  if v = 0#8 then some zero else if v = 1#8 then some one else none

/-- A bit of a presence or flag byte. -/
def bit (v : Byte) (i : Nat) : Bool := v.getLsbD i

/-! ## OPEN (R48, R50) -/

/-- The parameters of an OPEN that passes R50. -/
structure OpenRequest where
  terminal   : Fin 16
  target     : Nat
  compliance : Nat
  regulate   : Bool
  policy     : FaultPolicy
  waitLimit  : Nat
  duration   : Option (TimeUnit × Nat)
  rampTime   : Option Nat
  tolerance  : Option Nat
  tag        : Option Nat
  deriving DecidableEq, Repr

/-- A target in µA (R10). -/
def target? (v : Nat) : Option Nat := inRange? 50 600000 v

/-- The parameter check of R50. -/
def openRequest? (p : OpenParams) : Option OpenRequest := do
  let terminal ← index? 16 p.terminal.toNat
  let target ← target? p.target.toNat
  let compliance ← inRange? 1000 27000 p.compliance.toNat
  require (!bit p.flags 7)
  let waitLimit ← inRange? 0 600 p.waitLimit.toNat
  let count ← optional? (bit p.flags 2) (inRange? 1 4095 p.durationCount.toNat)
  let rampTime ← optional? (bit p.flags 4) (inRange? 0 2000 p.rampTime.toNat)
  let tolerance ← optional? (bit p.flags 5) (inRange? 10 60000 p.tolerance.toNat)
  let tag ← optional? (bit p.flags 6) (inRange? 1 15 p.groupTag.toNat)
  let unit := if bit p.flags 3 then TimeUnit.minutes else TimeUnit.seconds
  return {
    terminal, target, compliance, waitLimit, rampTime, tolerance, tag
    regulate := bit p.flags 0
    policy := if bit p.flags 1 then .close else .suspend
    duration := count.map fun n => (unit, n) }

/-- The record an accepted OPEN creates, before its outcome sets the state (R5). -/
def OpenRequest.lease (q : OpenRequest) (owner : Seat) : Lease :=
  { owner := owner, terminal := q.terminal, target := q.target, compliance := q.compliance, rampTime := q.rampTime
    tolerance := q.tolerance, regulate := q.regulate, policy := q.policy, waitLimit := q.waitLimit, tag := q.tag
    range := none, alloc := none
    duration := q.duration.map fun un => { unit := un.1, count := un.2, remaining := un.1.toSeconds un.2 }
    state := .waiting q.waitLimit 0, ramp := none, rampCount := 0#8, lastMeasurement := none
    railLost := false, changed := false }

/-! ## ADJUST (R67, R87) -/

/-- What an ADJUST carries. -/
structure AdjustRequest where
  target    : Option Nat
  extension : Option Nat
  deriving DecidableEq, Repr

/-- Check 1 of R67 and of R87. Presence bits 2 to 7, which the layout does not name, are taken as reserved bits of R172 (DESIGN CHOICE,
log 33). -/
def adjustRequest? (p : AdjustParams) : Option AdjustRequest := do
  require (p.presence != 0#8 && decide (p.presence.toNat < 4))
  let target ← optional? (bit p.presence 0) (target? p.target.toNat)
  let extension ← optional? (bit p.presence 1) (inRange? 1 4095 p.extension.toNat)
  return { target, extension }

/-! ## GROUP (R92) -/

/-- The action of a GROUP (R92). -/
inductive GroupAction where
  | suspend | resume | cancel
  deriving DecidableEq, Repr

/-- The tag, action and seat of a GROUP. -/
def readGroup (tag action seat : Byte) : Option (Nat × GroupAction × Seat) := do
  let t ← inRange? 1 15 tag.toNat
  let a ← [GroupAction.suspend, .resume, .cancel][action.toNat]?
  let x ← Seat.all[seat.toNat]?
  return (t, a, x)

/-! ## Seats, banks, scan, trips -/

/-- The filter of LIST FIRST; ALL when it is not given (R21). -/
def readFilter : Option Byte → Option Filter
  | none => some .all
  | some b => choice? .all .changedOnly b

/-- What a SEAT SET carries (R129). -/
structure SeatSetRequest where
  seat       : Seat
  address    : Option (BitVec 7)
  enable     : Option Bool
  leaseQuota : Option Nat
  cellQuota  : Option Nat
  period     : Option Nat
  policy     : Option LapsePolicy
  deriving DecidableEq, Repr

/-- Check 1 of R129. Presence bits 6 and 7, which the layout does not name, are taken as reserved bits of R172 (DESIGN CHOICE, log 33).
An address byte from 0x80, above the 7-bit range, of which R129 says nothing, is refused with 0x00-0x07 and 0x78-0x7F (DESIGN CHOICE,
log 34). -/
def seatSetRequest? (p : SeatSetParams) : Option SeatSetRequest := do
  let seat ← Seat.all[p.seat.toNat]?
  require (seat != .s)
  require (p.presence != 0#8 && decide (p.presence.toNat < 64))
  let address ← optional? (bit p.presence 0) (inRange? 0x08 0x77 p.address.toNat)
  let enable ← optional? (bit p.presence 1) (choice? false true p.enable)
  let leaseQuota ← optional? (bit p.presence 2) (inRange? 0 32 p.leaseQuota.toNat)
  let cellQuota ← optional? (bit p.presence 3) (inRange? 0 24 p.cellQuota.toNat)
  let period ← optional? (bit p.presence 4) (inRange? 0 255 p.period.toNat)
  let policy ← optional? (bit p.presence 5) (choice? LapsePolicy.suspendAll .closeAll p.policy)
  return { seat, address := address.map (BitVec.ofNat 7), enable, leaseQuota, cellQuota, period, policy }

/-- What a BANK SET carries (R42). -/
structure BankSetRequest where
  bank   : Fin 4
  rail   : Option Nat
  budget : Option Nat
  linger : Option Nat
  enable : Option Bool
  deriving DecidableEq, Repr

/-- A rail setting: 3000 to 28000 mV in steps of 100 (R42). -/
def rail? (v : Nat) : Option Nat := if v % 100 = 0 then inRange? 3000 28000 v else none

/-- Check 1 of R42. Presence bits 4 to 7, which the layout does not name, are taken as reserved bits of R172 (DESIGN CHOICE, log 33). -/
def bankSetRequest? (p : BankSetParams) : Option BankSetRequest := do
  let bank ← index? 4 p.bank.toNat
  require (p.presence != 0#8 && decide (p.presence.toNat < 16))
  let rail ← optional? (bit p.presence 0) (rail? p.rail.toNat)
  let budget ← optional? (bit p.presence 1) (inRange? 0 20000 p.budget.toNat)
  let linger ← optional? (bit p.presence 2) (inRange? 0 60 p.linger.toNat)
  let enable ← optional? (bit p.presence 3) (choice? false true p.enable)
  return { bank, rail, budget, linger, enable }

/-- The configuration of a SCAN SET (R99); the locked terminal is checked in LOCK only. -/
def scanConfig? (p : ScanSetParams) : Option ScanConfig := do
  require ([1, 2, 4, 8].contains p.averaging.toNat)
  let offsetCancel ← choice? false true p.offset
  let dwell ← inRange? 1 100 p.dwell.toNat
  let locked ← choice? false true p.mode
  let mode ← if locked then (index? 16 p.terminal.toNat).map ScanMode.lock else some .roundRobin
  return { averaging := p.averaging.toNat, offsetCancel, dwell, mode }

/-- The entry number and contents of a TRIP SET (R155). -/
def tripSetRequest? (p : TripSetParams) : Option (Fin 4 × TripEntry) := do
  let n ← index? 4 p.entry.toNat
  let terminal ← index? 16 p.terminal.toNat
  let condition ← [TripCondition.fault, .close, .over][p.condition.toNat]?
  let threshold ← inRange? 0 700000 p.threshold.toNat
  let armed ← choice? false true p.armed
  return (n, { terminal, condition, threshold, armed, fired := false })

/-- The bank and option of a CELL TEST (R140). -/
def readCellTest (bank option : Byte) : Option (Fin 4 × TestOption) := do
  let b ← index? 4 bank.toNat
  let o ← choice? TestOption.retain .retestAll option
  return (b, o)

/-- The terminal and mode of a TERMINAL SET (R47). -/
def readTerminalSet (terminal mode : Byte) : Option (Fin 16 × IdleMode) := do
  let t ← index? 16 terminal.toNat
  let m ← choice? IdleMode.discharge .float mode
  return (t, m)

/-- The tenant acknowledgement field of a HOLD: none when absent (R150). -/
def readHold : Option Byte → Option (Option Bool)
  | none => some none
  | some b => (choice? false true b).map some

end Sys2Proof.Machine
end

