-- ==== Sys2Proof/Machine/Payload.lean ====
section
/-! DEFINITION. The payloads of responses (R173, section 11.5): a field that is not held reads 0, a handle field with no lease 0xFF. -/

namespace Sys2Proof.Machine

def byte (n : Nat) : Byte := BitVec.ofNat 8 n

/-- A two-byte field. -/
def field16 (n : Nat) : List Byte := bytes16 (BitVec.ofNat 16 n)

/-- A three-byte field. -/
def field24 (n : Nat) : List Byte := bytes24 (BitVec.ofNat 24 n)

/-- A mark at a bit of a byte or of a two-byte field. -/
def markAt (i : Nat) (b : Bool) : Nat := if b then 2 ^ i else 0

/-- A handle field (R173). -/
def handleField (h : Option Handle) : Byte := h.getD Config.noLease

/-! ## The lease record (46 bytes) -/

/-- State code of byte 2, with bit 4: the phase in STARTING, the destination in RAMPDOWN. -/
def LeaseState.code : LeaseState → Nat
  | .waiting _ _ => 0
  | .starting .wake => 1
  | .starting .ramp => 1 + 16
  | .verifying => 2
  | .active _ _ => 3
  | .rampdown (.suspended _) => 4
  | .rampdown (.closed _) => 4 + 16
  | .suspended _ => 5
  | .closed _ => 6

def FaultKind.code : FaultKind → Nat
  | .compliance => 8 | .openLoad => 9 | .trimLimit => 10 | .railLost => 11

def SuspendReason.code : SuspendReason → Nat
  | .requested => 1 | .lapsed => 2 | .fault k => k.code

def EndReason.code : EndReason → Nat
  | .lapsed => 2 | .expired => 3 | .cancelled => 4 | .purged => 5 | .waitExpired => 6 | .fault k => k.code

/-- The reason field: the suspend reason in SUSPENDED and RAMPDOWN(SUSPENDED), the end reason in CLOSED and RAMPDOWN(CLOSED). -/
def LeaseState.reason : LeaseState → Nat
  | .suspended r | .rampdown (.suspended r) => r.code
  | .closed r | .rampdown (.closed r) => r.code
  | .waiting _ _ | .starting _ | .verifying | .active _ _ => 0

/-- The compliance strike, ACTIVE only (R13). -/
def LeaseState.strike? : LeaseState → Option Bool
  | .active b _ => some b
  | _ => none

/-- The wait remaining, WAITING only (R12). -/
def LeaseState.wait? : LeaseState → Option Nat
  | .waiting n _ => some n
  | _ => none

def Range.code : Range → Nat
  | .low => 0 | .mid => 1 | .high => 2

/-- The six cell list bytes; unused entries 0xFF; all 0 when there is no cell list (R173, log 27). Bits 5 and 6 of a used entry, which 11.5
does not name, read 0 (DESIGN CHOICE, log 31). -/
def cellListField : Option Allocation → List Byte
  | none => List.replicate 6 0#8
  | some a =>
    let used := (a.cells.take 6).map fun e => byte (e.cell.val + markAt 7 e.leaving)
    used ++ List.replicate (6 - used.length) 0xFF#8

/-- The lease record of QUERY and of the list walk (R19, 11.5). The bits of its bytes that 11.5 does not name (byte 1 bit 7, byte 2 bits 5
to 7, byte 4 bit 7, byte 17 bits 2, 3, 6 and 7, bits 5 and 6 of a used cell list entry) read 0: the model's choice (DESIGN CHOICE, log 31). -/
def Lease.record (l : Lease) (h : Handle) : List Byte :=
  let st := l.state
  let a := l.alloc
  let presence := markAt 0 l.range.isSome + markAt 1 a.isSome + markAt 2 l.duration.isSome + markAt 3 st.wait?.isSome +
    markAt 4 l.ramp.isSome + markAt 5 st.strike?.isSome + markAt 6 l.lastMeasurement.isSome + markAt 7 l.tolerance.isSome
  let marks := markAt 0 l.regulate + markAt 1 (l.policy == .close) + markAt 2 (l.duration.any (·.unit == .minutes)) +
    markAt 3 l.rampTime.isSome + markAt 4 (st.strike?.getD false) + markAt 5 l.railLost + markAt 6 l.changed
  [h, byte (l.terminal.val + 16 * l.owner.idx.val), byte st.code, byte presence, byte marks] ++
  field24 l.target ++ field16 l.compliance ++ field16 (l.rampTime.getD 0) ++ field16 (l.tolerance.getD 0) ++
  field16 l.waitLimit ++ [byte (l.tag.getD 0 + 16 * st.reason)] ++
  [byte ((l.range.map (·.code)).getD 0 + 16 * (a.map (·.bank.val)).getD 0)] ++ cellListField a ++
  field16 ((a.map (·.baseCode)).getD 0) ++ [BitVec.ofInt 8 ((a.map (·.trim)).getD 0)] ++
  field16 ((a.map (·.charge)).getD 0) ++ field16 ((l.duration.map (·.count)).getD 0) ++
  field16 ((l.duration.map (·.reported)).getD 0) ++ field16 (st.wait?.getD 0) ++
  field24 ((l.ramp.map (·.fromLevel)).getD 0) ++ field16 ((l.ramp.map (·.timeRemaining)).getD 0) ++ [l.rampCount] ++
  field24 ((l.lastMeasurement.map (·.current)).getD 0) ++ field16 ((l.lastMeasurement.map (·.voltage)).getD 0)

/-! ## STATUS (36 bytes), CELL QUERY (42 bytes), EVENTS (6 bytes) -/

def BankState.code : BankState → Nat
  | .disabled => 0 | .off => 1 | .waking _ => 2 | .on => 3 | .linger _ _ => 4 | .testing _ => 5 | .faulted => 6

def PoolState.code : PoolState → Nat
  | .run => 0
  | .hold .request => 1
  | .hold (.trip n) => 2 + n.val

/-- The STATUS payload (R169). -/
def State.statusPayload (s : State) : List Byte :=
  [byte s.pool.state.code] ++
  (allBanks.flatMap fun b => byte (s.bank b).state.code :: field16 (s.committed b)) ++
  [byte s.freeCount, byte s.occupancy, byte s.allocator.waitList.length] ++
  (allTerminals.map fun t => handleField (s.terminal t).holder) ++
  field16 ((allTerminals.map fun t => markAt t.val (s.terminal t).switchClosed).foldl (· + ·) 0) ++
  [if s.meas.running then 1#8 else 0#8] ++
  [byte ((allTrips.map fun n => markAt n.val s.pool.trips[n].armed + markAt (4 + n.val) s.pool.trips[n].fired).foldl (· + ·) 0)]

def CellState.code : CellState → Nat
  | .free => 0 | .allotted _ => 1 | .testing => 2 | .outOfService _ => 3

def TestResult.code : TestResult → Nat
  | .untested => 0 | .pass => 1 | .failGain => 2 | .failOffset => 3 | .failLeak => 4 | .incomplete => 5

/-- The out-of-service cause: 0 none, 1 TEST, 2 SUPERVISOR. -/
def CellState.causeCode : CellState → Nat
  | .outOfService .test => 1
  | .outOfService .supervisor => 2
  | .free | .allotted _ | .testing => 0

/-- The CELL QUERY payload: seven bytes per cell of the bank, in ascending order (R27). -/
def State.cellPayload (s : State) (b : Fin 4) : List Byte :=
  (cellsOf b).flatMap fun c =>
    let e := s.cell c
    let d := s.drive c
    [byte e.state.code, handleField e.state.holder?, byte e.lastResult.code, byte e.state.causeCode, byte d.range.code] ++
      field16 d.code

/-- The EVENTS payload: the latched and acknowledged marks before the request, the mask after it (R162). -/
def eventsPayload (latched acked mask : EventSet) : List Byte := bytes16 latched ++ bytes16 acked ++ bytes16 mask

/-- The bytes of a page: status, echoed code, payload length, payload, CRC (R166, R168). -/
def Page.bytes (p : Page) : List Byte :=
  let body := [p.status, p.code, byte p.payload.length] ++ p.payload
  body ++ [crc8 body]

end Sys2Proof.Machine
end

