-- ==== Sys2Proof/Machine/Requests.lean ====
section
/-! DEFINITION. What every request has in common: dispatch (R167), the seat checks (R131), handle resolution (R3), the answer (R168). -/

namespace Sys2Proof.Machine

/-- The response statuses (11.5, status codes). -/
inductive Status where
  | idle | pending | ok | queued | endOfList | frameError | unknownRequest | badParam | notPermitted | unknownHandle
  | notOwner | wrongState | tableFull | noResources | quota | waitFull | rangeExceeded | held | lapsed
  | bankUnavailable | bankBusy | seatBusy
  deriving DecidableEq, Repr

def Status.code : Status → Byte
  | .idle => 0x00#8 | .pending => 0x01#8 | .ok => 0x02#8 | .queued => 0x03#8 | .endOfList => 0x04#8
  | .frameError => 0x10#8 | .unknownRequest => 0x11#8 | .badParam => 0x12#8 | .notPermitted => 0x13#8
  | .unknownHandle => 0x14#8 | .notOwner => 0x15#8 | .wrongState => 0x16#8 | .tableFull => 0x17#8
  | .noResources => 0x18#8 | .quota => 0x19#8 | .waitFull => 0x1A#8 | .rangeExceeded => 0x1B#8
  | .held => 0x1C#8 | .lapsed => 0x1D#8 | .bankUnavailable => 0x1E#8 | .bankBusy => 0x1F#8 | .seatBusy => 0x20#8

/-- What an owning block answers: the state it leaves, the status and the payload. -/
structure Reply where
  state   : State
  status  : Status
  payload : List Byte

/-- A refusal: the request changed nothing (0.6), with an empty payload (R168). -/
def refuse (s : State) (st : Status) : Reply := ⟨s, st, []⟩

/-- OK with an empty payload. -/
def accept (s : State) : Reply := ⟨s, .ok, []⟩

/-- What the seat checks ask of a request: its permission class (R131), whether a tenant is refused HELD (R152), whether a LAPSED
seat may send it (R137). -/
structure RequestClass where
  supervisor : Bool
  heldInHold : Bool
  whenLapsed : Bool
  deriving DecidableEq, Repr

/-- SEAT SET to CELL QUERY: seat S only. -/
def supervisorClass : RequestClass := ⟨true, false, true⟩

/-- OPEN, ADJUST, SUSPEND, RESUME, CANCEL, GROUP: refused HELD to a tenant in HOLD, and LAPSED to a LAPSED seat. -/
def drivingClass : RequestClass := ⟨false, true, false⟩

/-- RELEASE: taken in HOLD, refused LAPSED to a LAPSED seat. -/
def releaseClass : RequestClass := ⟨false, false, false⟩

/-- QUERY, LIST FIRST, LIST NEXT, TOUCH, EVENTS, STATUS: taken in HOLD and while LAPSED. -/
def readingClass : RequestClass := ⟨false, false, true⟩

namespace State

variable (s : State)

/-- The seat checks, in order; the status of the first that fails (R131). -/
def seatCheck (x : Seat) (c : RequestClass) : Option Status :=
  if !(s.seat x).enabled then some .notPermitted
  else if c.supervisor && x != .s then some .notPermitted
  else if c.heldInHold && x != .s && s.held then some .held
  else if !c.whenLapsed && s.lapsed x then some .lapsed
  else none

/-- Whether the request's frame is the one the Request Unit dispatches: the oldest frame of the queue (R167), with RESET# low too (log 10).
With an empty queue the command stands for a frame that has just arrived at a seat with no frame of its own under way (log 1); none
arrives while RESET# is held low, since the port answers no address then (R171). -/
def mayDispatch (x : Seat) (f : Option Frame) : Bool :=
  match s.port.requestQueue with
  | [] => !s.busy x && !s.port.resetLow
  | g :: _ => some g == f

/-- The oldest frame leaves the request queue (R167). -/
def dequeue : State := { s with port := { s.port with requestQueue := s.port.requestQueue.tail } }

/-- A response replaces the seat's page and clears its busy mark (R167, R168). -/
def answer (x : Seat) (code : Byte) (st : Status) (payload : List Byte) : State :=
  (s.setPage x ⟨st.code, code, payload⟩).setBusy x false

/-- The state a request is taken in: due completions of zero-time ramps first (R73, log 3), and its frame off the queue. -/
def taken : State := s.settle.dequeue

end State

/-- The request code a command's frame carries (11.5). -/
def codeOf (i : Instr) : Byte := ((frameOf i).map (·.code)).getD 0#8

/-- The end of a request's act: its response stands in the page (R167, R168), and the output pins follow the state. -/
def State.respond (s : State) (i : Instr) (x : Seat) (st : Status) (payload : List Byte) : State :=
  (s.answer x (codeOf i) st payload).driveOutputs

/-- The handling of a request as one act (R167): the seat checks, then its own checks and effects, then the response. A request whose
frame is not the one to be dispatched does not occur (log 1). `refusedPayload` is what a refusal at the seat checks carries (R168). -/
def request (i : Instr) (x : Seat) (c : RequestClass) (refusedPayload : List Byte) (body : State → Reply) (s : State) :
    Host.Outcome State Fault Refusal :=
  if s.mayDispatch x (frameOf i) then
    match s.taken.seatCheck x c with
    | some st => .next (s.taken.respond i x st refusedPayload)
    | none =>
      let r := body s.taken
      .next (r.state.respond i x r.status r.payload)
  else .next s

/-- Handle resolution (R3): UNKNOWN_HANDLE, then NOT_OWNER for a tenant, else the record is the subject of the request. -/
def withRecord (x : Seat) (h : Handle) (s : State) (body : Fin 32 → Lease → Reply) : Reply :=
  match s.resolve h with
  | none => refuse s .unknownHandle
  | some (k, l) => if x ≠ .s ∧ l.owner ≠ x then refuse s .notOwner else body k l

/-- An event of the device itself: due completions of zero-time ramps first (log 3), then the act, then the outputs. -/
def event (act : State → State) (s : State) : Host.Outcome State Fault Refusal := .next (act s.settle).driveOutputs

end Sys2Proof.Machine
end

