-- ==== Sys2Proof/Machine/LeaseEvents.lean ====
section
/-! DEFINITION. The bank-on notice, ramp steps and completions, durations, waits, keepalives and lapses (R64, R65, R70 to R79, R133 to
R136). -/

namespace Sys2Proof.Machine

namespace State

variable (s : State)

/-! ## The bank-on notice (R70) -/

/-- One lease under a bank-on notice of bank `b`: in STARTING–WAKE on a bank that is ON, it enters STARTING–RAMP (R70). -/
def bankOnLease (b : Fin 4) (k : Fin 32) : State :=
  match s.lease? k with
  | some l =>
    if l.state = .starting .wake ∧ l.alloc.any (·.bank == b) = true ∧ (s.bank b).state = .on then
      ((s.putLease k { l with state := .starting .ramp }).claimToDriving b).startTargetRamp k
    else s
  | none => s

/-- The Lease Engine takes a bank-on notice of the bank, if one was handed: the leases in slot order (R70, log 17). -/
def takeBankOn (b : Fin 4) : State :=
  if s.engine.bankOnNotices.contains b then
    let s1 := { s with engine := { s.engine with bankOnNotices := s.engine.bankOnNotices.erase b } }
    allSlots.foldl (fun s k => s.bankOnLease b k) s1
  else s

/-! ## Ramps (R71, R74) -/

/-- The next step of a ramp: every cell gets its interpolated code (R71). -/
def rampStep (k : Fin 32) : State :=
  match s.lease? k with
  | some l =>
    match l.ramp with
    | some r =>
      if r.step < Config.rampSteps then
        let s1 := s.putLease k { l with ramp := some { r with step := r.step + 1, elapsed := (r.step + 1) * r.time } }
        s1.writeRamp r.cells (r.step + 1)
      else s
    | none => s
  | none => s

/-! ## Durations (R77, R79) -/

/-- The last second of a duration in ACTIVE in RUN: remaining reaches 0 and the lease expires into RAMPDOWN(CLOSED) with end reason
EXPIRED, one act (R77, R79, log 21). -/
def durationExpiry (k : Fin 32) : State :=
  if s.held then s
  else
    match s.lease? k with
    | some l =>
      match l.state, l.duration with
      | .active _ _, some d =>
        if d.remaining ≤ 1 then
          (s.putLease k { l with duration := some { d with remaining := 0 } }).enterRampdown k (.closed .expired)
        else s
      | _, _ => s
    | none => s

/-- A further whole second in ACTIVE in RUN; the last one expires the lease (R77, R79, log 21). -/
def durationSecond (k : Fin 32) : State :=
  if s.held then s
  else
    match s.lease? k with
    | some l =>
      match l.state, l.duration with
      | .active strike _, some d =>
        if d.remaining ≤ 1 then s.durationExpiry k
        else s.putLease k { l with
          state := .active strike 0, duration := some { d with remaining := d.remaining - 1 } }
      | _, _ => s
    | none => s

/-! ## Waits (R64, R65) -/

/-- The last second of a wait in RUN: wait remaining reaches 0 and a wait-expiry notice is handed to the Allocator, one act
(R64, R65, log 21). -/
def waitTimerExpiry (k : Fin 32) : State :=
  if s.held then s
  else
    match s.lease? k with
    | some l =>
      match l.state with
      | .waiting 1 _ =>
        let s1 := s.putLease k { l with state := .waiting 0 0 }
        { s1 with allocator := { s1.allocator with waitExpiryNotices := s1.allocator.waitExpiryNotices ++ [s.handleAt k] } }
      | _ => s
    | none => s

/-- A further whole second in WAITING in RUN; the last one hands the notice (R64, R65, log 21). -/
def waitSecond (k : Fin 32) : State :=
  if s.held then s
  else
    match s.lease? k with
    | some l =>
      match l.state with
      | .waiting (n + 2) _ => s.putLease k { l with state := .waiting (n + 1) 0 }
      | .waiting 1 _ => s.waitTimerExpiry k
      | _ => s
    | none => s

/-- The Allocator takes the wait-expiry notice of a handle, if one was handed: a lease still on the wait list closes with WAIT_EXPIRED
and CLOSED is posted; else the notice is discarded (R65). -/
def takeWaitExpiry (h : Handle) : State :=
  if s.allocator.waitExpiryNotices.contains h then
    let s1 := { s with allocator := { s.allocator with waitExpiryNotices := s.allocator.waitExpiryNotices.erase h } }
    match s1.resolve h with
    | some (k, _) =>
      if s1.allocator.waitList.contains k then (s1.closeWaiting k .waitExpired).postLease k .closed else s1
    | none => s1
  else s

/-! ## Keepalives (R133, R135) -/

/-- The last second of an ARMED keepalive in RUN: it reaches 0 and the seat lapses, one act: LAPSED, its level event, and a lapse notice
with the policy in force (R133, R135, log 21). -/
def keepaliveExpiry (x : Seat) : State :=
  if s.held then s
  else
    match (s.seat x).keepalive with
    | .armed n _ =>
      if n ≤ 1 then
        let s1 := (s.setSeat x { s.seat x with keepalive := .lapsed }).raiseLevel x .lapsed
        let policy := (s.seat x).policy.getD .suspendAll
        { s1 with engine := { s1.engine with lapseNotices := s1.engine.lapseNotices ++ [⟨x, policy⟩] } }
      else s
    | _ => s

/-- A further whole second of an ARMED keepalive in RUN; the last one lapses the seat (R133, R135, log 21). -/
def keepaliveSecond (x : Seat) : State :=
  if s.held then s
  else
    match (s.seat x).keepalive with
    | .armed (n + 2) _ => s.setSeat x { s.seat x with keepalive := .armed (n + 1) 0 }
    | .armed _ _ => s.keepaliveExpiry x
    | _ => s

/-! ## Lapses (R136) -/

end State

/-- Where a lapse takes a lease at once; none for the states it redirects, ramps down or leaves (R136). -/
def LapsePolicy.atOnce (p : LapsePolicy) : LeaseState → Option Destination
  | .starting .wake =>
    match p with
    | .suspendAll => some (.suspended .lapsed)
    | .closeAll => some (.closed .lapsed)
  | .starting .ramp | .verifying | .active _ _ =>
    match p with
    | .suspendAll => some (.suspended .lapsed)
    | .closeAll => none
  | .suspended _ =>
    match p with
    | .suspendAll => none
    | .closeAll => some (.closed .lapsed)
  | .waiting _ _ | .rampdown _ | .closed _ => none

namespace State

variable (s : State)

/-- What a lapse does to one record of the seat, by its state (R136). -/
def lapseLease (p : LapsePolicy) (k : Fin 32) : State :=
  match s.lease? k with
  | some l =>
    match p.atOnce l.state with
    | some d => (s.takeDestination k d).postLease k d.event
    | none =>
      match l.state, p with
      | .waiting _ _, _ => (s.closeWaiting k .lapsed).postLease k .closed
      | .starting .ramp, .closeAll | .verifying, .closeAll | .active _ _, .closeAll => s.enterRampdown k (.closed .lapsed)
      | .rampdown (.suspended _), .closeAll => s.putLease k { l with state := .rampdown (.closed .lapsed) }
      | _, _ => s
  | none => s

/-- Whether a lapse makes the record give anything back (R136). -/
def lapseGivesBack (p : LapsePolicy) (k : Fin 32) : Bool :=
  ((s.lease? k).bind fun l => p.atOnce l.state).any (s.givesBack k)

/-- A lapse notice is carried out on every record of its seat in slot order, with one rescan at the end if anything was given back
(R136). -/
def carryOutLapse (n : LapseNotice) : State :=
  let ks := allSlots.filter (s.ownedBy n.seat)
  (ks.foldl (fun s k => s.lapseLease n.policy k) s).rescanIf (ks.any (s.lapseGivesBack n.policy))

/-- The Lease Engine takes the oldest lapse notice of the seat, if one was handed (R135, R136, log 17). -/
def takeLapseNotice (x : Seat) : State :=
  match s.engine.lapseNotices.find? (·.seat == x) with
  | some n => { s with engine := { s.engine with lapseNotices := s.engine.lapseNotices.erase n } }.carryOutLapse n
  | none => s

end State

def execBankOnNotice (b : Fin 4) (s : State) : Host.Outcome State Fault Refusal := event (fun s => s.takeBankOn b) s

/-- RAMP_STEP: the due completions of zero-time ramps do not touch a ramp that still has steps to make, so none is taken first. -/
def execRampStep (k : Fin 32) (s : State) : Host.Outcome State Fault Refusal := .next (s.rampStep k).driveOutputs

/-- RAMP_COMPLETE of the lease in the slot, a zero-time ramp included (R73, R74, log 6). -/
def execRampComplete (k : Fin 32) (s : State) : Host.Outcome State Fault Refusal := .next (s.completeRamp k).driveOutputs

def execDurationExpiry (k : Fin 32) (s : State) : Host.Outcome State Fault Refusal := event (fun s => s.durationExpiry k) s

def execDurationSecond (k : Fin 32) (s : State) : Host.Outcome State Fault Refusal := event (fun s => s.durationSecond k) s

def execWaitTimerExpiry (k : Fin 32) (s : State) : Host.Outcome State Fault Refusal := event (fun s => s.waitTimerExpiry k) s

def execWaitSecond (k : Fin 32) (s : State) : Host.Outcome State Fault Refusal := event (fun s => s.waitSecond k) s

def execWaitExpiryNotice (h : Handle) (s : State) : Host.Outcome State Fault Refusal := event (fun s => s.takeWaitExpiry h) s

def execKeepaliveExpiry (x : Seat) (s : State) : Host.Outcome State Fault Refusal := event (fun s => s.keepaliveExpiry x) s

def execKeepaliveSecond (x : Seat) (s : State) : Host.Outcome State Fault Refusal := event (fun s => s.keepaliveSecond x) s

def execLapseNotice (x : Seat) (s : State) : Host.Outcome State Fault Refusal := event (fun s => s.takeLapseNotice x) s

end Sys2Proof.Machine
end

