-- ==== Sys2Proof/Machine/Clock.lean ====
section
/-! DEFINITION. What the device does with no command waiting: the work that is due inside it, else one tick of its clock (log 4). -/

namespace Sys2Proof.Machine.State

variable (s : State)

/-! ## Work that is due -/

/-- A zero-time ramp's completion (R73). -/
def dueCompletion : List Instr := s.dueSlot.toList.map .rampComplete

/-- The oldest frame of the request queue (R167). -/
def dueFrame : List Instr := ((s.port.requestQueue.head?).bind commandOf).toList

/-- Notices and results that one block has handed to another (R37, R65, R95, R108, R113, R135). -/
def dueNotices : List Instr :=
  s.engine.bankOnNotices.map .bankOnNotice ++ s.engine.lapseNotices.map (fun n => .lapseNotice n.seat) ++
    s.engine.results.map (fun _ => .resultDelivery) ++ s.allocator.waitExpiryNotices.map .waitExpiryNotice ++
    s.pool.notices.map fun n => match n with
      | .fault _ _ _ => .faultNotice
      | .scan _ _ => .scanResultMatch

/-- Whether a whole second has accumulated in RUN. -/
def secondDue (part : Nat) : Bool := !s.held && decide (Config.ticksPerSecond ≤ part)

/-- What a bank's timers ask for (R37, R39, R40). -/
def dueBank (b : Fin 4) : List Instr :=
  match (s.bank b).state with
  | .waking t | .testing (some t) => if t = 0 then [.wakeTimeout b] else []
  | .linger n part => if s.secondDue part then [if n ≤ 1 then .lingerExpiry b else .lingerSecond b] else []
  | .disabled | .off | .on | .testing none | .faulted => []

/-- What a lease's ramp and timers ask for (R64, R71, R74, R77, R79). -/
def dueLease (k : Fin 32) : List Instr :=
  match s.lease? k with
  | some l =>
    (match l.ramp with
      | some r =>
        if Config.rampSteps ≤ r.step then [.rampComplete k]
        else if (r.step + 1) * r.time ≤ r.elapsed then [.rampStep k] else []
      | none => []) ++
    (match l.state, l.duration with
      | .active _ part, some d =>
        if s.secondDue part then [if d.remaining ≤ 1 then .durationExpiry k else .durationSecond k] else []
      | .waiting n part, _ =>
        if s.secondDue part && n != 0 then [if n = 1 then .waitTimerExpiry k else .waitSecond k] else []
      | _, _ => [])
  | none => []

/-- What a seat's keepalive asks for (R133, R135). -/
def dueSeat (x : Seat) : List Instr :=
  match (s.seat x).keepalive with
  | .armed n part => if s.secondDue part then [if n ≤ 1 then .keepaliveExpiry x else .keepaliveSecond x] else []
  | .disarmed | .lapsed => []

/-- The dwell timer has run its time (R105). -/
def dueDwell : List Instr := if s.meas.dwell = some 0 then [.dwellElapses] else []

/-- Everything that is due, in the order the model takes it (log 4). -/
def due : List Instr :=
  s.dueCompletion ++ s.dueFrame ++ s.dueNotices ++ allBanks.flatMap s.dueBank ++ allSlots.flatMap s.dueLease ++
    Seat.all.flatMap s.dueSeat ++ s.dueDwell

/-! ## One tick -/

/-- The timers of a bank after a tick: the wake timer runs in HOLD as in RUN, linger in RUN only (R37, R39). -/
def tickBank (b : Fin 4) : Bank :=
  { s.bank b with
    state := match (s.bank b).state with
      | .waking t => .waking (t - 1)
      | .testing (some t) => .testing (some (t - 1))
      | .linger n part => .linger n (if s.held then part else part + 1)
      | st => st }

/-- The timers of a lease after a tick: a ramp runs in HOLD as in RUN, durations and waits in RUN only (R64, R71, R77). -/
def tickLease (l : Lease) : Lease :=
  { l with
    ramp := l.ramp.map fun r => { r with elapsed := r.elapsed + 1 }
    state := match l.state, l.duration with
      | .active strike part, some _ => .active strike (if s.held then part else part + 1)
      | .waiting n part, _ => .waiting n (if s.held then part else part + 1)
      | st, _ => st }

/-- The keepalive after a tick: ARMED counts in RUN only (R133). -/
def tickKeepalive (k : Keepalive) : Keepalive :=
  match k with
  | .armed n part => .armed n (if s.held then part else part + 1)
  | .disarmed => .disarmed
  | .lapsed => .lapsed

/-- One tick of the clock, 1/32 ms: every running timer advances by it (log 4). The dwell, the conversion and the test step run in HOLD
as in RUN (R105, R143). -/
def clockTick : State :=
  { s with
    banks := Vector.ofFn s.tickBank
    engine := { s.engine with
      slots := Vector.ofFn fun k => { s.slot k with record := (s.lease? k).map s.tickLease } }
    seatCtl := { s.seatCtl with
      seats := Vector.ofFn fun i => { s.seatCtl.seats[i] with keepalive := s.tickKeepalive s.seatCtl.seats[i].keepalive } }
    meas := { s.meas with
      dwell := s.meas.dwell.map (· - 1)
      conversion := s.meas.conversion.map fun c => { c with timeLeft := c.timeLeft - 1 } }
    selfTest := s.selfTest.map fun t =>
      { t with current := t.current.map fun step => { step with timeLeft := step.timeLeft - 1 } } }

/-- A step with no command waiting: the first work that is due becomes the waiting command, else the clock ticks once (log 4). -/
def idle : State :=
  match s.due with
  | c :: _ => { s with pending := [c] }
  | [] => s.clockTick

end Sys2Proof.Machine.State
end

