-- ==== Sys2Proof/Machine/BankRequests.lean ====
section
/-! DEFINITION. BANK SET, BANK CLEAR, CELL OUT, CELL IN, TERMINAL SET and CELL QUERY (spec chapter 2). -/

namespace Sys2Proof.Machine

/-! ## BANK SET (R42) -/

/-- Checks 2 to 5 of R42, in order. -/
def State.bankSetRefusal (s : State) (q : BankSetRequest) : Option Status :=
  let e := s.bank q.bank
  if !e.strapEnabled then some .bankUnavailable
  else if q.rail.any (· != e.rail) && s.anyInUse q.bank then some .bankBusy
  else if q.budget.any (· < s.committed q.bank) then some .bankBusy
  else if q.enable == some false && s.anyInUse q.bank then some .bankBusy
  else none

/-- The bank's state after the enable field (R42). -/
def BankSetRequest.state (q : BankSetRequest) (st : BankState) : BankState :=
  match q.enable with
  | some false => .disabled
  | some true => if st = .disabled then .off else st
  | none => st

/-- An accepted BANK SET applies its fields in one act (R42). -/
def State.applyBankSet (s : State) (q : BankSetRequest) : State :=
  let e := s.bank q.bank
  let s1 := s.setBank q.bank { e with
    rail := q.rail.getD e.rail, budget := q.budget.getD e.budget, lingerTime := q.linger.getD e.lingerTime
    state := q.state e.state }
  let s2 := if q.enable = some false then s1.endBankFault else s1
  s2.rescanIf (q.budget.any (e.budget < ·) || (q.enable == some true && e.state == .disabled))

def bankSetBody (p : BankSetParams) (s : State) : Reply :=
  match bankSetRequest? p with
  | none => refuse s .badParam
  | some q =>
    match s.bankSetRefusal q with
    | some st => refuse s st
    | none => accept (s.applyBankSet q)

def execBankSet (x : Seat) (p : BankSetParams) (s : State) : Host.Outcome State Fault Refusal :=
  request (.bankSet x p) x supervisorClass [] (bankSetBody p) s

/-! ## BANK CLEAR (R43) -/

def bankClearBody (bank : Byte) (s : State) : Reply :=
  match index? 4 bank.toNat with
  | none => refuse s .badParam
  | some b =>
    if (s.bank b).state = .faulted then
      accept ((s.setBank b { s.bank b with state := .off, driving := 0, claims := 0 }).endBankFault.rescan)
    else refuse s .wrongState

def execBankClear (x : Seat) (bank : Byte) (s : State) : Host.Outcome State Fault Refusal :=
  request (.bankClear x bank) x supervisorClass [] (bankClearBody bank) s

/-! ## CELL OUT and CELL IN (R25, R26) -/

def cellOutBody (cell : Byte) (s : State) : Reply :=
  match index? 24 cell.toNat with
  | none => refuse s .badParam
  | some c =>
    if !(s.bank (bankOf c)).strapEnabled then refuse s .bankUnavailable
    else if (s.cell c).state = .free then accept (s.setCell c { s.cell c with state := .outOfService .supervisor })
    else refuse s .wrongState

def execCellOut (x : Seat) (cell : Byte) (s : State) : Host.Outcome State Fault Refusal :=
  request (.cellOut x cell) x supervisorClass [] (cellOutBody cell) s

def cellInBody (cell : Byte) (s : State) : Reply :=
  match index? 24 cell.toNat with
  | none => refuse s .badParam
  | some c =>
    if !(s.bank (bankOf c)).strapEnabled then refuse s .bankUnavailable
    else
      match (s.cell c).state with
      | .outOfService _ => accept (s.setCell c { s.cell c with state := .free }).rescan
      | .free | .allotted _ | .testing => refuse s .wrongState

def execCellIn (x : Seat) (cell : Byte) (s : State) : Host.Outcome State Fault Refusal :=
  request (.cellIn x cell) x supervisorClass [] (cellInBody cell) s

/-! ## TERMINAL SET (R47) -/

def terminalSetBody (terminal mode : Byte) (s : State) : Reply :=
  match readTerminalSet terminal mode with
  | none => refuse s .badParam
  | some (t, m) =>
    let e := s.terminal t
    accept (s.setTerminal t { e with requested := m, idle := if e.holder.isNone then m else e.idle })

def execTerminalSet (x : Seat) (terminal mode : Byte) (s : State) : Host.Outcome State Fault Refusal :=
  request (.terminalSet x terminal mode) x supervisorClass [] (terminalSetBody terminal mode) s

/-! ## CELL QUERY (R27) -/

def cellQueryBody (bank : Byte) (s : State) : Reply :=
  match index? 4 bank.toNat with
  | none => refuse s .badParam
  | some b => ⟨s, .ok, s.cellPayload b⟩

def execCellQuery (x : Seat) (bank : Byte) (s : State) : Host.Outcome State Fault Refusal :=
  request (.cellQuery x bank) x supervisorClass [] (cellQueryBody bank) s

end Sys2Proof.Machine
end

