-- ==== Sys2Proof/Machine/LeaseRequests.lean ====
section
/-! DEFINITION. The requests on leases: OPEN, ADJUST, SUSPEND, RESUME, CANCEL, RELEASE, QUERY, the list walk, GROUP and PURGE
(spec chapters 1, 3 and 4). -/

namespace Sys2Proof.Machine

/-! ## OPEN (R48 to R59) -/

/-- The OPEN response payload: the handle, then the sub-reason (11.5). -/
def openPayload (h : Option Handle) (r : Option SubReason) : List Byte :=
  [handleField h, (r.map (·.code)).getD 0#8]

/-- A refused OPEN: no record, handle 0xFF (R48). -/
def refuseOpen (s : State) (st : Status) (r : Option SubReason) : Reply := ⟨s, st, openPayload none r⟩

/-- Step 6 of R49: some bank that is not DISABLED has a rail high enough (R52). -/
def State.railCheck (s : State) (compliance : Nat) : Bool :=
  allBanks.any fun b => (s.bank b).state != .disabled && s.railServes b compliance

/-- A lease enters WAITING: its record is created and it joins the end of the wait list (R59). -/
def State.enterWaiting (s : State) (k : Fin 32) (l : Lease) : State :=
  let s1 := s.putLease k l
  { s1 with allocator := { s1.allocator with waitList := s1.allocator.waitList ++ [k] } }

/-- OPEN from step 3 of R49 on. -/
def openBody (x : Seat) (p : OpenParams) (s : State) : Reply :=
  match openRequest? p with
  | none => refuseOpen s .badParam none
  | some q =>
    if (s.seat x).leaseQuota ≤ s.recordCount x then refuseOpen s .quota none
    else
      match s.emptySlot? with
      | none => refuseOpen s .tableFull none
      | some k =>
        if !s.railCheck q.compliance then refuseOpen s .noResources (some .railTooLow)
        else if (s.seat x).cellQuota < admissionCells q.target then refuseOpen s .quota none
        else
          let l := q.lease x
          match s.attempt l with
          | .ok b => ⟨s.admitTo k l b, .ok, openPayload (some (s.handleAt k)) none⟩
          | .error r =>
            if q.waitLimit = 0 then refuseOpen s .noResources (some r)
            else if s.allocator.waitList.length < Config.waitPlaces then
              ⟨s.enterWaiting k l, .queued, openPayload (some (s.handleAt k)) (some r)⟩
            else refuseOpen s .waitFull (some r)

/-- OPEN (R49). A refusal at the seat checks carries handle 0xFF and no sub-reason (R48, log 15). -/
def execOpenLease (x : Seat) (p : OpenParams) (s : State) : Host.Outcome State Fault Refusal :=
  request (.openLease x p) x drivingClass (openPayload none none) (openBody x p) s

/-! ## ADJUST (R67, R68, R87 to R91) -/

/-- An extension of a waiting lease: the count rises, and remaining with it; refused above 4095 or when indefinite (R68). -/
def Duration.extendWaiting (d : Option Duration) (n : Nat) : Option Duration :=
  match d with
  | some d =>
    if 4095 < d.count + n then none
    else some { d with count := d.count + n, remaining := d.remaining + d.unit.toSeconds n }
  | none => none

/-- An extension in ACTIVE or SUSPENDED: remaining rises; refused when indefinite or when the reported remaining would pass 4095 (R91). -/
def Duration.extendRunning (d : Option Duration) (n : Nat) : Option Duration :=
  match d with
  | some d => if 4095 < d.reported + n then none else some { d with remaining := d.remaining + d.unit.toSeconds n }
  | none => none

/-- The duration after an optional extension; none when the extension is refused. -/
def extended (extend : Option Duration → Nat → Option Duration) (d : Option Duration) (n : Option Nat) :
    Option (Option Duration) :=
  match n with
  | none => some d
  | some n => (extend d n).map some

/-- ADJUST of a lease in WAITING (R67, R68). -/
def adjustWaiting (p : AdjustParams) (k : Fin 32) (l : Lease) (s : State) : Reply :=
  match adjustRequest? p with
  | none => refuse s .badParam
  | some q =>
    let target := q.target.getD l.target
    if q.target.isSome && decide ((s.seat l.owner).cellQuota < admissionCells target) then refuse s .quota
    else
      match extended Duration.extendWaiting l.duration q.extension with
      | none => refuse s .badParam
      | some d => accept (s.putLease k { l with target := target, duration := d })

/-- The cell list rebuilt for a cell count `n`: the first `n` listed cells stay or are reclaimed, those after them leave, and the
lowest FREE cells of the bank are appended as needed (R88). -/
def Allocation.rebuilt (a : Allocation) (n : Nat) (free : List (Fin 24)) : List ListedCell :=
  (a.cells.take n).map (fun e => { e with leaving := false }) ++
    (a.cells.drop n).map (fun e => { e with leaving := true }) ++
    (free.take (n - a.cells.length)).map fun c => ⟨c, false⟩

/-- The new cell list, base code, trim 0 and charge of a retarget, with the committed charge and the appended cells (R88, R89, R90). -/
def State.retarget (s : State) (k : Fin 32) (l : Lease) (a : Allocation) (target : Nat) : State :=
  let r := l.range.getD .low
  let n := cellCount r target
  let free := s.freeIn a.bank
  let charge := chargeOf target (s.bank a.bank).rail
  let a1 : Allocation :=
    { bank := a.bank, cells := a.rebuilt n free, baseCode := baseCodeOf r n target, trim := 0, charge := charge }
  let s1 := s.allotCells (s.handleAt k) l.terminal r (free.take (n - a.cells.length))
  let s2 := s1.setCommitted a.bank (s1.committed a.bank - a.charge + charge)
  s2.putLease k { l with target := target, alloc := some a1 }

/-- Every leaving cell of a suspended lease is freed at once (R90). -/
def State.freeLeaving (s : State) (k : Fin 32) : State :=
  match s.lease? k with
  | some l =>
    match l.alloc with
    | some a => (s.freeCells a.leavingCells).putLease k { l with alloc := some a.withoutLeaving }
    | none => s
  | none => s

/-- Checks 3 to 6 of R87 for a new target: the status and payload of the first that fails. -/
def State.retargetRefusal (s : State) (l : Lease) (a : Allocation) (target : Nat) : Option (Status × List Byte) :=
  let n := cellCount (l.range.getD .low) target
  let len := a.cells.length
  if 6 < n then some (.rangeExceeded, [])
  else if (s.seat l.owner).cellQuota < s.allottedCount l.owner - len + max len n then some (.quota, [])
  else if (s.freeIn a.bank).length < n - len then some (.noResources, [SubReason.noCells.code])
  else if (s.bank a.bank).budget < s.committed a.bank - a.charge + chargeOf target (s.bank a.bank).rail then
    some (.noResources, [SubReason.overBudget.code])
  else none

/-- ADJUST of a lease in ACTIVE or SUSPENDED (R87, R89 to R91). -/
def adjustHolding (p : AdjustParams) (k : Fin 32) (l : Lease) (suspended : Bool) (s : State) : Reply :=
  match adjustRequest? p with
  | none => refuse s .badParam
  | some q =>
    match extended Duration.extendRunning l.duration q.extension with
    | none => refuse s .badParam
    | some d =>
      let l1 := { l with duration := d }
      match q.target, l.alloc with
      | some target, some a =>
        match s.retargetRefusal l a target with
        | some (st, payload) => ⟨s, st, payload⟩
        | none =>
          let lowered := decide (chargeOf target (s.bank a.bank).rail < a.charge)
          let s1 := s.retarget k l1 a target
          if suspended then
            let freed := decide (cellCount (l.range.getD .low) target < a.cells.length)
            accept ((s1.freeLeaving k).rescanIf (lowered || freed))
          else accept ((s1.startTargetRamp k).rescanIf lowered)
      | _, _ => accept (s.putLease k l1)

/-- ADJUST by state (R67, R87). -/
def adjustBody (x : Seat) (p : AdjustParams) (s : State) : Reply :=
  withRecord x p.handle s fun k l =>
    match l.state with
    | .waiting _ _ => adjustWaiting p k l s
    | .active _ _ => adjustHolding p k l false s
    | .suspended _ => adjustHolding p k l true s
    | .starting _ | .verifying | .rampdown _ | .closed _ => refuse s .wrongState

/-- ADJUST (R87). -/
def execAdjust (x : Seat) (p : AdjustParams) (s : State) : Host.Outcome State Fault Refusal :=
  request (.adjust x p) x drivingClass [] (adjustBody x p) s

/-! ## SUSPEND, RESUME, CANCEL (R66, R83 to R86) -/

/-- A request stops a lease at once: the event is posted when the requester is not the owner (R86), and one rescan follows if
anything was given back (R78). -/
def State.stopByRequest (s : State) (x : Seat) (k : Fin 32) (l : Lease) (d : Destination) : State :=
  let s1 := s.takeDestination k d
  let s2 := if x = l.owner then s1 else s1.postLease k d.event
  s2.rescanIf (s.givesBack k d)

/-- A waiting lease is closed by a request (R66, R93). -/
def State.closeWaitingByRequest (s : State) (x : Seat) (k : Fin 32) (l : Lease) (why : EndReason) : State :=
  let s1 := s.closeWaiting k why
  if x = l.owner then s1 else s1.postLease k .closed

/-- SUSPEND of one lease, by state (R83). -/
def suspendLease (x : Seat) (k : Fin 32) (l : Lease) (s : State) : Reply :=
  match l.state with
  | .starting .wake => accept (s.stopByRequest x k l (.suspended .requested))
  | .starting .ramp | .verifying | .active _ _ => accept (s.enterRampdown k (.suspended .requested))
  | .rampdown (.suspended _) | .suspended _ => accept s
  | .waiting _ _ | .rampdown (.closed _) | .closed _ => refuse s .wrongState

/-- RESUME of one lease, by state (R84). -/
def resumeLease (k : Fin 32) (l : Lease) (s : State) : Reply :=
  match l.state with
  | .suspended _ =>
    if s.lapsed l.owner then refuse s .lapsed
    else if l.alloc.any fun a => (s.bank a.bank).state == .faulted then refuse s .bankUnavailable
    else accept (s.enterStarting k)
  | .rampdown (.suspended _) =>
    if s.lapsed l.owner then refuse s .lapsed
    else accept ((s.putLease k { l with state := .starting .ramp }).startTargetRamp k)
  | .waiting _ _ | .starting _ | .verifying | .active _ _ | .rampdown (.closed _) | .closed _ => refuse s .wrongState

/-- CANCEL of one lease, by state (R66, R85). -/
def cancelLease (x : Seat) (k : Fin 32) (l : Lease) (s : State) : Reply :=
  match l.state with
  | .waiting _ _ => accept (s.closeWaitingByRequest x k l .cancelled)
  | .starting .wake | .suspended _ => accept (s.stopByRequest x k l (.closed .cancelled))
  | .starting .ramp | .verifying | .active _ _ => accept (s.enterRampdown k (.closed .cancelled))
  | .rampdown (.suspended _) => accept (s.putLease k { l with state := .rampdown (.closed .cancelled) })
  | .rampdown (.closed _) => accept s
  | .closed _ => refuse s .wrongState

def execSuspend (x : Seat) (h : Handle) (s : State) : Host.Outcome State Fault Refusal :=
  request (.suspend x h) x drivingClass [] (fun s => withRecord x h s fun k l => suspendLease x k l s) s

def execResume (x : Seat) (h : Handle) (s : State) : Host.Outcome State Fault Refusal :=
  request (.resume x h) x drivingClass [] (fun s => withRecord x h s fun k l => resumeLease k l s) s

def execCancel (x : Seat) (h : Handle) (s : State) : Host.Outcome State Fault Refusal :=
  request (.cancel x h) x drivingClass [] (fun s => withRecord x h s fun k l => cancelLease x k l s) s

/-! ## RELEASE (R6) -/

/-- RELEASE of one record: a CLOSED record's slot is emptied and its generation advances (R6). -/
def releaseLease (k : Fin 32) (l : Lease) (s : State) : Reply :=
  match l.state with
  | .closed _ => accept (s.emptySlot k)
  | .waiting _ _ | .starting _ | .verifying | .active _ _ | .rampdown _ | .suspended _ => refuse s .wrongState

def execRelease (x : Seat) (h : Handle) (s : State) : Host.Outcome State Fault Refusal :=
  request (.release x h) x releaseClass [] (fun s => withRecord x h s fun k l => releaseLease k l s) s

/-! ## QUERY and the list walk (R18 to R22) -/

/-- A read of a record: the record as it stands; the changed flag clears when the reader is the owner (R18). -/
def State.readRecord (s : State) (x : Seat) (k : Fin 32) (l : Lease) : Reply :=
  let s1 := if x = l.owner then s.putLease k { l with changed := false } else s
  ⟨s1, .ok, l.record (s.handleAt k)⟩

def execQuery (x : Seat) (h : Handle) (s : State) : Host.Outcome State Fault Refusal :=
  request (.query x h) x readingClass [] (fun s => withRecord x h s fun k l => s.readRecord x k l) s

/-- Whether a slot's record qualifies for a walk of the seat (R21). -/
def State.walkQualifies (s : State) (x : Seat) (f : Filter) (k : Fin 32) : Bool :=
  (s.lease? k).any fun l => (x == .s || l.owner == x) && (f == .all || l.changed)

/-- The walk from the seat's cursor: the first qualifying record at or above the position, or END_OF_LIST (R21, R22). -/
def walkBody (x : Seat) (s : State) : Reply :=
  let e := s.seat x
  match allSlots.find? fun k => e.cursor ≤ k.val && s.walkQualifies x e.cursorFilter k with
  | some k =>
    match s.lease? k with
    | some l => (s.setSeat x { e with cursor := k.val + 1 }).readRecord x k l
    | none => refuse s .endOfList
  | none => ⟨s.setSeat x { e with cursor := 32 }, .endOfList, []⟩

/-- LIST FIRST stores the filter, sets the position to 0 and walks (R21). -/
def listFirstBody (x : Seat) (filter : Option Byte) (s : State) : Reply :=
  match readFilter filter with
  | none => refuse s .badParam
  | some f => walkBody x (s.setSeat x { s.seat x with cursor := 0, cursorFilter := f })

def execListFirst (x : Seat) (filter : Option Byte) (s : State) : Host.Outcome State Fault Refusal :=
  request (.listFirst x filter) x readingClass [] (listFirstBody x filter) s

def execListNext (x : Seat) (s : State) : Host.Outcome State Fault Refusal :=
  request (.listNext x) x readingClass [] (walkBody x) s

/-! ## GROUP (R92) -/

/-- The action of a GROUP on one lease, as if the sending seat had sent it alone. -/
def GroupAction.apply (a : GroupAction) (x : Seat) (k : Fin 32) (l : Lease) (s : State) : Reply :=
  match a with
  | .suspend => suspendLease x k l s
  | .resume => resumeLease k l s
  | .cancel => cancelLease x k l s

/-- A GROUP in progress: the state, the acted-on count and the refused count. -/
structure GroupRun where
  state   : State
  acted   : Nat
  refused : Nat

/-- A GROUP examines one slot, after the due completions of zero-time ramps, so that the action meets the lease as a request sent alone
would (R73); a record of the named seat with the named tag is acted on and counted (R92). -/
def GroupRun.visit (x : Seat) (tag : Nat) (a : GroupAction) (owner : Seat) (g : GroupRun) (k : Fin 32) : GroupRun :=
  let s := g.state.settle
  match s.lease? k with
  | some l =>
    if l.owner = owner ∧ l.tag = some tag then
      let r := a.apply x k l s
      if r.status = .ok then ⟨r.state, g.acted + 1, g.refused⟩ else ⟨s, g.acted, g.refused + 1⟩
    else { g with state := s }
  | none => { g with state := s }

def groupBody (x : Seat) (tag action seat : Byte) (s : State) : Reply :=
  match readGroup tag action seat with
  | none => refuse s .badParam
  | some (t, a, owner) =>
    if x ≠ .s ∧ owner ≠ x then refuse s .notPermitted
    else
      let g := allSlots.foldl (GroupRun.visit x t a owner) ⟨s, 0, 0⟩
      ⟨g.state, .ok, [byte g.acted, byte g.refused]⟩

def execGroup (x : Seat) (tag action seat : Byte) (s : State) : Host.Outcome State Fault Refusal :=
  request (.group x tag action seat) x drivingClass [] (groupBody x tag action seat) s

/-! ## PURGE (R93) -/

/-- PURGE of one lease: closed at once with end reason PURGED (R93). -/
def purgeLease (x : Seat) (k : Fin 32) (l : Lease) (s : State) : Reply :=
  match l.state with
  | .closed _ => refuse s .wrongState
  | .waiting _ _ => accept (s.closeWaitingByRequest x k l .purged)
  | .starting _ | .verifying | .active _ _ | .rampdown _ | .suspended _ =>
    accept (s.stopByRequest x k l (.closed .purged))

def execPurge (x : Seat) (h : Handle) (s : State) : Host.Outcome State Fault Refusal :=
  request (.purge x h) x supervisorClass [] (fun s => withRecord x h s fun k l => purgeLease x k l s) s

end Sys2Proof.Machine
end

