-- ==== Sys2Proof/Machine/MeasureEvents.lean ====
section
/-! DEFINITION. The completion of a conversion, the dwell, and the delivery of a result (R95, R105 to R111). -/

namespace Sys2Proof.Machine

namespace State

variable (s : State)

/-- Whether the samples are those of the conversion in flight: N of each quantity, grounded ones with offset cancellation on (R95). -/
def samplesFit (c : Conversion) (m : Samples) : Bool :=
  m.current.length == c.averaging && m.voltage.length == c.averaging && m.offset.isSome == c.offsetCancel

/-- The completion of the conversion in flight: its result is handed to the Lease Engine, a scan restarts the dwell, and the unit
reconsiders (R95); log 13. -/
def completeConversion (m : Samples) : State :=
  match s.meas.conversion with
  | some c =>
    if samplesFit c m then
      let f := figuresOf m
      let r : Result :=
        { terminal := c.terminal, source := c.source, handle := c.handle, rampStamp := c.rampStamp
          current := f.current, voltage := f.voltage }
      let s1 := { s with
        engine := { s.engine with results := s.engine.results ++ [r] }, meas := { s.meas with conversion := none } }
      (if c.source = .scan then s1.startDwell else s1).reconsider
    else s
  | none => s

/-- The dwell elapses: the next visit is due and the unit reconsiders (R105). -/
def dwellElapses : State := if s.meas.dwell.isSome then s.makeVisitDue.reconsider else s

/-! ## Delivering a result (R106) -/

/-- The state of a result's state stamp (R94). -/
def stampedState (src : Source) (st : LeaseState) : Bool :=
  match src, st with
  | .verify, .verifying => true
  | .scan, .active _ _ => true
  | _, _ => false

/-- The record a result applies to: its handle names the holder of its terminal, in the stamped state, at the stamped ramp count; none
when the result is discarded (R106). -/
def applicable (r : Result) : Option (Fin 32 × Lease) :=
  (s.resolve r.handle).filter fun kl =>
    (s.terminal r.terminal).holder == some r.handle && stampedState r.source kl.2.state && kl.2.rampCount == r.rampStamp

/-- A passing verify takes the lease to ACTIVE: strike 0, a fresh second, STARTED posted, and the unit reconsiders (R76, R96). -/
def enterActive (k : Fin 32) : State :=
  match s.lease? k with
  | some l => ((s.putLease k { l with state := .active false 0 }).postLease k .started).reconsider
  | none => s

/-- An applied verify result (R107). -/
def applyVerify (k : Fin 32) (l : Lease) (r : Result) : State :=
  let s1 := s.putLease k { l with lastMeasurement := some ⟨r.current, r.voltage⟩ }
  if l.compliance < r.voltage then s1.faultPath k .compliance
  else if r.current * 2 < l.target then s1.faultPath k .openLoad
  else s1.enterActive k

/-- The trim the step of R110 asks for. -/
def wantedTrim (l : Lease) (trim : Int) (current : Nat) : Int :=
  let d : Int := (current : Int) - l.target
  if d < -(effectiveTolerance l : Int) then trim + 1
  else if (effectiveTolerance l : Int) < d then trim - 1
  else trim

/-- The trim step of an applied scan result (R110), not made with regulate no or in HOLD (R111). -/
def trimStep (k : Fin 32) (current : Nat) : State :=
  match s.lease? k with
  | some l =>
    if !l.regulate || s.held then s
    else
      match l.alloc with
      | some a =>
        let trim := wantedTrim l a.trim current
        if trim = a.trim then s
        else if trim < -64 ∨ 63 < trim then s.faultPath k .trimLimit
        else
          let s1 := s.putLease k { l with alloc := some { a with trim := trim } }
          match a.cells with
          | lead :: _ => s1.writeCode lead.cell (leadCode a.baseCode trim)
          | [] => s1
      | none => s
  | none => s

/-- Steps 1 to 3 of an applied scan result (R108): the measurement, the compliance test (R109), the trim step. -/
def judgeScan (k : Fin 32) (l : Lease) (r : Result) : State :=
  match l.state with
  | .active strike part =>
    let l1 := { l with lastMeasurement := some ⟨r.current, r.voltage⟩ }
    if l.compliance < r.voltage then
      if strike then (s.putLease k l1).faultPath k .compliance
      else s.putLease k { l1 with state := .active true part }
    else (s.putLease k { l1 with state := .active false part }).trimStep k r.current
  | _ => s

/-- The Lease Engine takes its oldest delivered result and applies or discards it (R106); an applied scan result goes on to Pool Control
(R108 step 4). -/
def deliverResult : State :=
  match s.engine.results with
  | r :: rest =>
    let s1 := { s with engine := { s.engine with results := rest } }
    match s1.applicable r with
    | some (k, l) =>
      match r.source with
      | .verify => s1.applyVerify k l r
      | .scan => (s1.judgeScan k l r).handPool (.scan r.terminal r.current)
    | none => s1
  | [] => s

end State

def execConversionComplete (m : Samples) (s : State) : Host.Outcome State Fault Refusal :=
  event (fun s => s.completeConversion m) s

def execDwellElapses (s : State) : Host.Outcome State Fault Refusal := event State.dwellElapses s

def execResultDelivery (s : State) : Host.Outcome State Fault Refusal := event State.deliverResult s

end Sys2Proof.Machine
end

