-- ==== Sys2Proof/Machine/Pool.lean ====
section
/-! DEFINITION. HOLD, RUN, the trip table and its firing, fault notices and scan results at Pool Control, RESTART
(spec chapter 9, R170). -/

namespace Sys2Proof.Machine

namespace State

variable (s : State)

/-- Linger drops its part-second while the pool is in HOLD (R39). -/
def dropLingerParts : State :=
  { s with banks := Vector.ofFn fun b =>
      match (s.bank b).state with
      | .linger n _ => { s.bank b with state := .linger n 0 }
      | _ => s.bank b }

/-- The pool enters HOLD with a cause, or stays as it is when already in HOLD (R149, R150, R156). -/
def enterHold (c : HoldCause) : State :=
  if s.held then s
  else ({ s with pool := { s.pool with state := .hold c } }.dropLingerParts).raiseHold

/-- A trip entry fires (R156): fired, disarmed, HOLD with cause TRIP n from RUN, TRIP posted to seat S. -/
def fireTrip (n : Fin 4) : State :=
  let e := s.pool.trips[n]
  let s1 := { s with pool := { s.pool with trips := s.pool.trips.set n { e with armed := false, fired := true } } }
  (s1.enterHold (.trip n)).postEdge .s .trip

end State

/-- Whether an entry matches what Pool Control takes (R156). -/
def TripEntry.matched (e : TripEntry) : PoolNotice → Bool
  | .fault t _ closed => e.armed && e.terminal == t && (e.condition == .fault || (e.condition == .close && closed))
  | .scan t current => e.armed && e.terminal == t && e.condition == .over && decide (e.threshold < current)

/-- Every matching entry fires, in ascending number (R156). -/
def State.matchNotice (s : State) (n : PoolNotice) : State :=
  allTrips.foldl (fun s i => if (s.pool.trips[i]).matched n then s.fireTrip i else s) s

/-! ## HOLD and RUN (R150, R154) -/

def holdBody (ack : Option Byte) (s : State) : Reply :=
  match readHold ack with
  | none => refuse s .badParam
  | some field =>
    let s1 := s.enterHold .request
    accept { s1 with seatCtl := { s1.seatCtl with ackInHold := field.getD s1.seatCtl.ackInHold } }

def execHold (x : Seat) (ack : Option Byte) (s : State) : Host.Outcome State Fault Refusal :=
  request (.hold x ack) x supervisorClass [] (holdBody ack) s

def runBody (s : State) : Reply :=
  if s.held then accept ({ s with pool := { s.pool with state := .run } }.endHold).rescan else accept s

def execRun (x : Seat) (s : State) : Host.Outcome State Fault Refusal :=
  request (.run x) x supervisorClass [] runBody s

/-! ## TRIP SET and TRIP FIRE (R155, R157) -/

def tripSetBody (p : TripSetParams) (s : State) : Reply :=
  match tripSetRequest? p with
  | none => refuse s .badParam
  | some (n, e) => accept { s with pool := { s.pool with trips := s.pool.trips.set n e } }

def execTripSet (x : Seat) (p : TripSetParams) (s : State) : Host.Outcome State Fault Refusal :=
  request (.tripSet x p) x supervisorClass [] (tripSetBody p) s

def tripFireBody (entry : Byte) (s : State) : Reply :=
  match index? 4 entry.toNat with
  | none => refuse s .badParam
  | some n => accept (s.fireTrip n)

def execTripFire (x : Seat) (entry : Byte) (s : State) : Host.Outcome State Fault Refusal :=
  request (.tripFire x entry) x supervisorClass [] (tripFireBody entry) s

/-! ## Fault notices and applied scan results (R108, R115, R156) -/

def PoolNotice.isFault : PoolNotice → Bool
  | .fault _ _ _ => true
  | .scan _ _ => false

/-- Pool Control takes its oldest fault notice (R115); log 17. -/
def State.takeFaultNotice (s : State) : State :=
  match s.pool.notices.find? (·.isFault) with
  | some n => { s with pool := { s.pool with notices := s.pool.notices.erase n } }.matchNotice n
  | none => s

def execFaultNotice (s : State) : Host.Outcome State Fault Refusal := event State.takeFaultNotice s

/-- Pool Control takes its oldest notice when that is an applied scan result: a fault notice handed before it goes first (R108). -/
def State.takeScanResult (s : State) : State :=
  match s.pool.notices with
  | n :: rest => if n.isFault then s else { s with pool := { s.pool with notices := rest } }.matchNotice n
  | [] => s

def execScanResultMatch (s : State) : Host.Outcome State Fault Refusal := event State.takeScanResult s

/-! ## RESTART (R170) -/

/-- A slot after RESTART: empty, its generation advanced when it held a record (R8). -/
def Slot.restarted (x : Slot) (k : Fin 32) : Slot :=
  { gen := if x.record.isSome then nextGen k x.gen else x.gen, record := none }

/-- A seat table entry after RESTART: keepalive from its period (R128), cursor (R20), event set cleared and mask kept (R158). -/
def SeatEntry.restarted (e : SeatEntry) : SeatEntry :=
  let period := e.period.getD 0
  { e with
    keepalive := match e.keepalive with
      | .disarmed => .disarmed
      | .armed _ _ | .lapsed => if period = 0 then .disarmed else .armed period 0
    latched := 0#16, acked := 0#16, cursor := 0, cursorFilter := .all }

/-- A cell after RESTART: ALLOTTED and TESTING become FREE, OUT_OF_SERVICE stays, results stay (R23), no route (R44). -/
def CellEntry.restarted (e : CellEntry) : CellEntry :=
  { e with
    state := match e.state with
      | .outOfService c => .outOfService c
      | .free | .allotted _ | .testing => .free
    route := none }

/-- A bank after RESTART: OFF unless DISABLED, timers and counts gone, configuration kept (R34). -/
def Bank.restarted (b : Bank) : Bank :=
  { b with state := if b.state = .disabled then .disabled else .off, driving := 0, claims := 0 }

/-- The Measurement Unit after RESTART: verify queue empty, position 15, and when RUNNING a visit due at once; configurations, run state
and the conversion in flight stay (R94, R97, R102). -/
def MeasurementUnit.restarted (m : MeasurementUnit) : MeasurementUnit :=
  { m with
    verifyQueue := [], position := 15
    dwell := if m.running then none else m.dwell, visitDue := if m.running then true else m.visitDue }

/-- What RESTART does to the blocks; the port is left as it is (R170). -/
def State.restarted (s : State) : State :=
  { s with
    seatCtl := { s.seatCtl with seats := Vector.ofFn fun i => s.seatCtl.seats[i].restarted }
    engine :=
      { slots := Vector.ofFn fun k => (s.slot k).restarted k, bankOnNotices := [], lapseNotices := [], results := [] }
    allocator :=
      { cells := Vector.ofFn fun c => (s.cell c).restarted, committed := Vector.replicate 4 0
        terminals := Vector.ofFn fun t =>
          { s.terminal t with holder := none, idle := (s.terminal t).requested }
        waitList := [], waitExpiryNotices := [] }
    cellArray := Vector.ofFn fun c => { s.drive c with code := 0 }
    banks := Vector.ofFn fun b => (s.bank b).restarted
    meas := s.meas.restarted
    pool := { state := .run, trips := Vector.ofFn fun n => { s.pool.trips[n] with fired := false }, notices := [] }
    selfTest := none }

def execRestart (x : Seat) (s : State) : Host.Outcome State Fault Refusal :=
  request (.restart x) x supervisorClass [] (fun s => accept s.restarted) s

end Sys2Proof.Machine
end

