-- ==== Sys2Proof/Machine/PortEvents.lean ====
section
/-! DEFINITION. The I2C target port and the resets: WRITE_ADDRESS, WRITE_BYTE_RECEIVED, WRITE_END, READ_PAGE, the device resets and
RESET# held low (R164 to R168, R171). -/

namespace Sys2Proof.Machine

namespace State

variable (s : State)

/-- The acknowledge bit the port drives for a byte. -/
def setAck (v : Bool) : State := { s with port := { s.port with ack := v } }

def setTransaction (t : Transaction) : State := { s with port := { s.port with transaction := t } }

/-! ## The end of a write (R165) -/

/-- A good frame joins the end of the request queue and the page becomes PENDING; the busy mark stays set (R165 case 6, R168). -/
def queueFrame (f : Frame) : State :=
  { s with port := { s.port with requestQueue := s.port.requestQueue ++ [f] } }.setPage f.seat
    ⟨Status.pending.code, f.code, []⟩

/-- What the Request Unit makes of the bytes of a write: the first case of R165 that applies. -/
def judgeWrite (x : Seat) (received : List Byte) : State :=
  match received with
  | [] => s.setBusy x false
  | [code] => s.answer x code .frameError []
  | code :: len :: rest =>
    let body := [code, len] ++ rest.take len.toNat
    match rest.drop len.toNat with
    | [] => s.answer x code .frameError []
    | crc :: _ =>
      if 24 < len.toNat then s.answer x code .frameError []
      else if crc ≠ crc8 body then s.answer x code .frameError []
      else
        match allowedLengths code with
        | none => s.answer x code .unknownRequest []
        | some ls =>
          if ls.contains len.toNat then s.queueFrame ⟨x, code, rest.take len.toNat⟩
          else s.answer x code .frameError []

/-- The write in progress ends at a STOP or a repeated START (R165); with none in progress nothing changes (log 2). -/
def endWrite : State :=
  match s.port.transaction with
  | .idle => s
  | .write x received => (s.setTransaction .idle).judgeWrite x received

/-! ## Address and data bytes (R164, R165) -/

/-- The address byte of a write: a START ends any write in progress (log 20); ACKed at an enabled seat whose busy mark is clear while the
request queue has room, and the busy mark is set in the same act (R164). -/
def writeAddress (address : BitVec 7) : State :=
  let s1 := s.endWrite
  if s1.port.resetLow then s1.setAck false
  else
    match s1.seatAt address with
    | none => s1.setAck false
    | some x =>
      if Config.queuePlaces ≤ s1.port.requestQueue.length || s1.busy x then s1.setAck false
      else ((s1.setBusy x true).setTransaction (.write x [])).setAck true

/-- Whether the next byte of a write is ACKed: the code always, a length up to 24, then as many bytes as the length asks for and the CRC
(R165). -/
def byteWanted (received : List Byte) (b : Byte) : Bool :=
  match received with
  | [] => true
  | [_] => decide (b.toNat ≤ 24)
  | _ :: len :: rest => decide (len.toNat ≤ 24) && decide (rest.length ≤ len.toNat)

/-- A byte of an ACKed write: counted as received when it is ACKed, and a NACKed length byte is kept for the judgement (R165, log 28); a byte
with no write in progress is not acknowledged (log 2). -/
def writeByte (b : Byte) : State :=
  match s.port.transaction with
  | .idle => s.setAck false
  | .write x received =>
    let wanted := byteWanted received b
    let kept := if wanted || received.length == 1 then received ++ [b] else received
    (s.setTransaction (.write x kept)).setAck wanted

/-- A read of `count` bytes at an address: the page as it stood when the address byte was ACKed, then 0xFF (R164, R166, log 12). -/
def readPage (address : BitVec 7) (count : Nat) : State :=
  let s1 := s.endWrite
  if s1.port.resetLow then s1.setAck false
  else
    match s1.seatAt address with
    | none => s1.setAck false
    | some x =>
      let page := (s1.page x).bytes
      let data := page.take count ++ List.replicate (count - page.length) 0xFF#8
      { s1 with port := { s1.port with ack := true, readData := data } }

/-! ## Resets (R171) -/

/-- RESET# goes low: a transaction is abandoned, SDA is released, and no address is answered while it stays low (R171). The request queue,
the pages, the busy marks and the other blocks stay, and frames already queued are still dispatched, until the device reset at the
release: the model's choice (DESIGN CHOICE, log 10). -/
def holdReset : State :=
  { s with port := { s.port with transaction := .idle, ack := false, resetLow := true } }

/-- A device reset, sampling the straps; the rail-good inputs stay as the board drives them (log 8), the commands that wait stay (log 19).
The port answers after it: after POWER_ON_RESET too, although R171 also says that no address is answered while RESET# is held low and
nothing says that a POR comes with RESET# released (DESIGN CHOICE, log 32). -/
def deviceReset (straps : Straps) : State :=
  (State.afterReset straps (Vector.ofFn fun b => (s.bank b).railGood) s.pending).driveOutputs

end State

def execWriteAddress (address : BitVec 7) (s : State) : Host.Outcome State Fault Refusal := .next (s.writeAddress address)

def execWriteEnd (s : State) : Host.Outcome State Fault Refusal := .next s.endWrite

def execWriteByteReceived (byte : Byte) (s : State) : Host.Outcome State Fault Refusal := .next (s.writeByte byte)

def execReadPage (address : BitVec 7) (count : Nat) (s : State) : Host.Outcome State Fault Refusal :=
  .next (s.readPage address count)

def execPowerOnReset (straps : Straps) (s : State) : Host.Outcome State Fault Refusal := .next (s.deviceReset straps)

def execPinReset (straps : Straps) (s : State) : Host.Outcome State Fault Refusal := .next (s.deviceReset straps)

def execResetHeldLow (s : State) : Host.Outcome State Fault Refusal := .next s.holdReset

end Sys2Proof.Machine
end

