-- ==== Sys2Proof/Machine/RailEvents.lean ====
section
/-! DEFINITION. The rail-good inputs, the wake timeout, linger and its expiry (R36 to R41). -/

namespace Sys2Proof.Machine

namespace State

variable (s : State)

/-- The level on RGOODb as last seen (0.4). -/
def setRailGood (b : Fin 4) (v : Bool) : State := s.setBank b { s.bank b with railGood := v }

/-- Rail-good seen high (R37, R41): a wake completes into ON; a bank under test has its rail up and the Self-Test Unit is told. Other
states take no action on it. -/
def railGoodRise (b : Fin 4) : State :=
  let s1 := s.setRailGood b true
  match (s.bank b).state with
  | .waking _ => s1.enterOn b
  | .testing (some _) => (s1.moveBank b (.testing none)).railUpNotice b
  | .disabled | .off | .on | .linger _ _ | .testing none | .faulted => s1

/-- Rail-good seen low (R38 to R41): rail loss for a bank in ON, LINGER or TESTING with its rail up; else no effect. -/
def railGoodFall (b : Fin 4) : State :=
  let s1 := s.setRailGood b false
  match (s.bank b).state with
  | .on | .linger _ _ | .testing none => s1.railLoss b
  | .disabled | .off | .waking _ | .testing (some _) | .faulted => s1

/-- The wake timer has run out before rail-good (R37, R40, R41): rail loss for a bank in WAKING or in TESTING before its rail is up
(log 5). -/
def wakeTimeout (b : Fin 4) : State :=
  match (s.bank b).state with
  | .waking _ | .testing (some _) => s.railLoss b
  | .disabled | .off | .on | .linger _ _ | .testing none | .faulted => s

/-- The last second of linger in RUN: linger remaining reaches 0 and the bank enters OFF, one act (R39, log 21). -/
def lingerExpiry (b : Fin 4) : State :=
  if s.held then s
  else
    match (s.bank b).state with
    | .linger n _ => if n ≤ 1 then s.moveBank b .off else s
    | _ => s

/-- A further whole second of linger in RUN; the last one ends the linger (R39, log 21). -/
def lingerSecond (b : Fin 4) : State :=
  if s.held then s
  else
    match (s.bank b).state with
    | .linger (n + 2) _ => s.moveBank b (.linger (n + 1) 0)
    | .linger _ _ => s.lingerExpiry b
    | _ => s

end State

def execRailGoodRise (b : Fin 4) (s : State) : Host.Outcome State Fault Refusal := event (fun s => s.railGoodRise b) s

def execRailGoodFall (b : Fin 4) (s : State) : Host.Outcome State Fault Refusal := event (fun s => s.railGoodFall b) s

def execWakeTimeout (b : Fin 4) (s : State) : Host.Outcome State Fault Refusal := event (fun s => s.wakeTimeout b) s

def execLingerExpiry (b : Fin 4) (s : State) : Host.Outcome State Fault Refusal := event (fun s => s.lingerExpiry b) s

def execLingerSecond (b : Fin 4) (s : State) : Host.Outcome State Fault Refusal := event (fun s => s.lingerSecond b) s

end Sys2Proof.Machine
end

