-- ==== Sys2Proof/Machine/ScanRequests.lean ====
section
/-! DEFINITION. SCAN SET, SCAN START and SCAN STOP (R99 to R101). -/

namespace Sys2Proof.Machine

/-- SCAN SET replaces the whole pending configuration (R99). -/
def scanSetBody (p : ScanSetParams) (s : State) : Reply :=
  match scanConfig? p with
  | none => refuse s .badParam
  | some c => accept { s with meas := { s.meas with pending := c } }

def execScanSet (x : Seat) (p : ScanSetParams) (s : State) : Host.Outcome State Fault Refusal :=
  request (.scanSet x p) x supervisorClass [] (scanSetBody p) s

/-- SCAN START: the pending configuration becomes active, RUNNING, position 15, a visit due at once, and the unit reconsiders (R100). -/
def scanStartBody (s : State) : Reply :=
  accept ({ s with meas := { s.meas with active := s.meas.pending, running := true, position := 15 } }.makeVisitDue).reconsider

def execScanStart (x : Seat) (s : State) : Host.Outcome State Fault Refusal :=
  request (.scanStart x) x supervisorClass [] scanStartBody s

/-- SCAN STOP: STOPPED, and no dwell timer (R101). -/
def scanStopBody (s : State) : Reply := accept { s with meas := { s.meas with running := false, dwell := none } }

def execScanStop (x : Seat) (s : State) : Host.Outcome State Fault Refusal :=
  request (.scanStop x) x supervisorClass [] scanStopBody s

end Sys2Proof.Machine
end

