-- ==== Sys2Proof/Machine/SeatRequests.lean ====
section
/-! DEFINITION. TOUCH, EVENTS, STATUS and SEAT SET (spec chapters 7 and 10, R169). -/

namespace Sys2Proof.Machine

/-- A keepalive set from a period: ARMED with the full period and no part-second, or DISARMED for 0 (R128, R130, R134). -/
def Keepalive.ofPeriod (period : Nat) : Keepalive := if period = 0 then .disarmed else .armed period 0

namespace State

variable (s : State)

def setKeepalive (x : Seat) (k : Keepalive) : State := s.setSeat x { s.seat x with keepalive := k }

/-- The keepalive period, 0 when the seat has none. -/
def period (x : Seat) : Nat := (s.seat x).period.getD 0

end State

/-! ## TOUCH (R134) -/

/-- TOUCH refreshes an ARMED keepalive and ends a LAPSED condition; it changes nothing for a DISARMED seat (R131, R134). -/
def touchBody (x : Seat) (s : State) : Reply :=
  match (s.seat x).keepalive with
  | .disarmed => accept s
  | .armed _ _ => accept (s.setKeepalive x (.ofPeriod (s.period x)))
  | .lapsed => accept ((s.setKeepalive x (.ofPeriod (s.period x))).endLevel x .lapsed)

def execTouch (x : Seat) (s : State) : Host.Outcome State Fault Refusal :=
  request (.touch x) x readingClass [] (touchBody x) s

/-! ## EVENTS (R153, R161, R162) -/

/-- Whether acknowledgements of the seat are skipped: a tenant in HOLD with ack_in_hold no (R153). -/
def State.acksDeferred (s : State) (x : Seat) : Bool := x != .s && s.held && !s.seatCtl.ackInHold

def eventsBody (x : Seat) (ack : BitVec 16) (mask : Option (BitVec 16)) (s : State) : Reply :=
  if (ack ||| mask.getD 0#16) &&& undefinedMarks ≠ 0#16 then refuse s .badParam
  else
    let before := s.seat x
    let s1 := if s.acksDeferred x then s else s.acknowledge x ack
    let s2 := s1.setSeat x { s1.seat x with mask := mask.getD before.mask }
    ⟨s2, .ok, eventsPayload before.latched before.acked (mask.getD before.mask)⟩

def execEvents (x : Seat) (ack : BitVec 16) (mask : Option (BitVec 16)) (s : State) : Host.Outcome State Fault Refusal :=
  request (.events x ack mask) x readingClass [] (eventsBody x ack mask) s

/-! ## STATUS (R169) -/

def execStatus (x : Seat) (s : State) : Host.Outcome State Fault Refusal :=
  request (.status x) x readingClass [] (fun s => ⟨s, .ok, s.statusPayload⟩) s

/-! ## SEAT SET (R129, R130) -/

/-- Check 2 of R129: an enabled seat may not stand at the address of another enabled seat. -/
def State.addressTaken (s : State) (x : Seat) (address : BitVec 7) : Bool :=
  Seat.all.any fun y => y != x && (s.seat y).enabled && (s.seat y).address == address

/-- Checks 2 to 4 of R129, in order. -/
def State.seatSetRefusal (s : State) (q : SeatSetRequest) : Option Status :=
  let e := s.seat q.seat
  if q.enable.getD e.enabled && s.addressTaken q.seat (q.address.getD e.address) then some .badParam
  else if q.leaseQuota.any fun n => n < s.recordCount q.seat then some .badParam
  else if q.cellQuota.any fun n => n < s.allottedCount q.seat then some .badParam
  else if q.enable == some false && (s.recordCount q.seat != 0 || s.busy q.seat) then some .seatBusy
  else none

/-- The keepalive of a tenant seat after an accepted SEAT SET (R130). -/
def SeatSetRequest.keepalive (q : SeatSetRequest) (e : SeatEntry) : Keepalive :=
  let period := q.period.getD (e.period.getD 0)
  match q.enable, e.enabled with
  | some false, _ => .disarmed
  | some true, false => .ofPeriod period
  | _, false => .disarmed
  | _, true => if q.period.isSome && e.keepalive != .lapsed then .ofPeriod period else e.keepalive

/-- An accepted SEAT SET applies its fields in one act (R130). -/
def State.applySeatSet (s : State) (q : SeatSetRequest) : State :=
  let e := s.seat q.seat
  let s1 := s.setSeat q.seat { e with
    address := q.address.getD e.address, enabled := q.enable.getD e.enabled
    leaseQuota := q.leaseQuota.getD e.leaseQuota, cellQuota := q.cellQuota.getD e.cellQuota
    period := some (q.period.getD (e.period.getD 0)), policy := some (q.policy.getD (e.policy.getD .suspendAll))
    keepalive := q.keepalive e }
  let s2 :=
    if q.enable = some false then s1.clearEvents q.seat
    else if q.enable = some true ∧ e.enabled = false ∧ s.held = true then s1.raiseLevel q.seat .hold
    else s1
  s2.rescanIf (q.leaseQuota.any (e.leaseQuota < ·) || q.cellQuota.any (e.cellQuota < ·))

def seatSetBody (p : SeatSetParams) (s : State) : Reply :=
  match seatSetRequest? p with
  | none => refuse s .badParam
  | some q =>
    match s.seatSetRefusal q with
    | some st => refuse s st
    | none => accept (s.applySeatSet q)

def execSeatSet (x : Seat) (p : SeatSetParams) (s : State) : Host.Outcome State Fault Refusal :=
  request (.seatSet x p) x supervisorClass [] (seatSetBody p) s

end Sys2Proof.Machine
end

