-- ==== Sys2Proof/Machine/SelfTest.lean ====
section
/-! DEFINITION. CELL TEST, TEST ABORT and the steps of a self-test (spec chapter 8). -/

namespace Sys2Proof.Machine

/-! ## CELL TEST (R140, R141) -/

/-- The cells an option takes into the test, in ascending order (R141). -/
def State.testCells (s : State) (b : Fin 4) (o : TestOption) : List (Fin 24) :=
  (cellsOf b).filter fun c =>
    match (s.cell c).state, o with
    | .free, _ => true
    | .outOfService _, .retestAll => true
    | _, _ => false

/-- Checks 2 to 4 of R140, in order. -/
def State.cellTestRefusal (s : State) (b : Fin 4) (o : TestOption) : Option Status :=
  if (s.bank b).state = .disabled ∨ (s.bank b).state = .faulted then some .bankUnavailable
  else if s.selfTest.isSome || s.anyAllotted b then some .bankBusy
  else if (s.testCells b o).isEmpty then some .wrongState
  else none

/-- The bank state a test begins in (R41): from OFF with the wake timer started, or with the rail up when rail-good is already high
(log 8); from WAKING with the timer running on; from LINGER with the rail up. A bank in ON with no ALLOTTED cell, which no run reaches
(R140), has its rail up too (log 22). -/
def BankState.underTest (railGood : Bool) : BankState → BankState
  | .off => .testing (if railGood then none else some (msTicks Config.wakeMs))
  | .waking t => .testing (some t)
  | .linger _ _ | .on | .disabled | .faulted => .testing none
  | .testing w => .testing w

/-- An accepted CELL TEST (R141): cells, test record and bank in one act, and the rail-up notice at once when the rail is up. -/
def State.startTest (s : State) (b : Fin 4) (o : TestOption) : State :=
  let cs := s.testCells b o
  let s1 := cs.foldl (fun s c => s.setCell c { s.cell c with state := .testing }) s
  let s2 := { s1 with selfTest := some { bank := b, option := o, cells := cs, current := none, abort := false } }
  let st := (s.bank b).state.underTest (s.bank b).railGood
  let s3 := s2.moveBank b st
  if st = .testing none then s3.railUpNotice b else s3

def cellTestBody (bank option : Byte) (s : State) : Reply :=
  match readCellTest bank option with
  | none => refuse s .badParam
  | some (b, o) =>
    match s.cellTestRefusal b o with
    | some st => refuse s st
    | none => accept (s.startTest b o)

def execCellTest (x : Seat) (bank option : Byte) (s : State) : Host.Outcome State Fault Refusal :=
  request (.cellTest x bank option) x supervisorClass [] (cellTestBody bank option) s

/-! ## TEST ABORT (R145) -/

def testAbortBody (s : State) : Reply :=
  match s.selfTest with
  | none => refuse s .wrongState
  | some t =>
    if t.current.isSome then accept (s.abortTest t)
    else accept { s with selfTest := some { t with abort := true } }

def execTestAbort (x : Seat) (s : State) : Host.Outcome State Fault Refusal :=
  request (.testAbort x) x supervisorClass [] testAbortBody s

/-! ## The completion of a step (R143, R144) -/

/-- The check after a check, in the order of R143: GAIN, OFFSET, LEAK within LOW, MID, HIGH; none after the ninth. -/
def nextCheck : Range → Check → Option (Range × Check)
  | r, .gain => some (r, .offset)
  | r, .offset => some (r, .leak)
  | .low, .leak => some (.mid, .gain)
  | .mid, .leak => some (.high, .gain)
  | .high, .leak => none

/-- The result of a first failure (R144). -/
def Check.failure : Check → TestResult
  | .gain => .failGain | .offset => .failOffset | .leak => .failLeak

/-- A cell's test ends: code 0, the outcome in the cell table, then the next cell or the completion of the test (R144). -/
def State.endCellTest (s : State) (t : TestRecord) (c : Fin 24) (st : CellState) (r : TestResult) : State :=
  let s1 := (s.zeroCode c).setCell c { s.cell c with state := st, lastResult := r }
  match (t.cells.dropWhile (· != c)).tail with
  | next :: _ => s1.startTestStep t next .low .gain
  | [] => s1.finishTest t.bank

/-- The completion of the step in progress, judged against the measured current (R143, R144). -/
def State.completeTestStep (current : Nat) (s : State) : State :=
  match s.selfTest with
  | some t =>
    match t.current with
    | some step =>
      if checkPasses step.check step.range current then
        match nextCheck step.range step.check with
        | some (r, chk) => s.startTestStep t step.cell r chk
        | none => s.endCellTest t step.cell .free .pass
      else s.endCellTest t step.cell (.outOfService .test) step.check.failure
    | none => s
  | none => s

def execTestStepComplete (loadNanoamps : Nat) (s : State) : Host.Outcome State Fault Refusal :=
  event (State.completeTestStep (loadMicroamps loadNanoamps)) s

end Sys2Proof.Machine
end

