-- ==== Sys2Proof/Machine/Dispatch.lean ====
section
/-! DEFINITION. One arm per command: its meaning. -/

namespace Sys2Proof.Machine

/-- The effect of a command on everything but the queue of waiting commands. -/
def exec (i : Instr) (s : State) : Host.Outcome State Fault Refusal :=
  match i with
  | .openLease x p => Sys2Proof.Machine.execOpenLease x p s
  | .adjust x p => Sys2Proof.Machine.execAdjust x p s
  | .suspend x h => Sys2Proof.Machine.execSuspend x h s
  | .resume x h => Sys2Proof.Machine.execResume x h s
  | .cancel x h => Sys2Proof.Machine.execCancel x h s
  | .release x h => Sys2Proof.Machine.execRelease x h s
  | .query x h => Sys2Proof.Machine.execQuery x h s
  | .listFirst x filter => Sys2Proof.Machine.execListFirst x filter s
  | .listNext x => Sys2Proof.Machine.execListNext x s
  | .group x tag action seat => Sys2Proof.Machine.execGroup x tag action seat s
  | .touch x => Sys2Proof.Machine.execTouch x s
  | .events x ack mask => Sys2Proof.Machine.execEvents x ack mask s
  | .status x => Sys2Proof.Machine.execStatus x s
  | .seatSet x p => Sys2Proof.Machine.execSeatSet x p s
  | .bankSet x p => Sys2Proof.Machine.execBankSet x p s
  | .bankClear x bank => Sys2Proof.Machine.execBankClear x bank s
  | .scanSet x p => Sys2Proof.Machine.execScanSet x p s
  | .scanStart x => Sys2Proof.Machine.execScanStart x s
  | .scanStop x => Sys2Proof.Machine.execScanStop x s
  | .cellTest x bank option => Sys2Proof.Machine.execCellTest x bank option s
  | .testAbort x => Sys2Proof.Machine.execTestAbort x s
  | .cellOut x cell => Sys2Proof.Machine.execCellOut x cell s
  | .cellIn x cell => Sys2Proof.Machine.execCellIn x cell s
  | .terminalSet x terminal mode => Sys2Proof.Machine.execTerminalSet x terminal mode s
  | .hold x ack => Sys2Proof.Machine.execHold x ack s
  | .run x => Sys2Proof.Machine.execRun x s
  | .tripSet x p => Sys2Proof.Machine.execTripSet x p s
  | .tripFire x entry => Sys2Proof.Machine.execTripFire x entry s
  | .purge x h => Sys2Proof.Machine.execPurge x h s
  | .restart x => Sys2Proof.Machine.execRestart x s
  | .cellQuery x bank => Sys2Proof.Machine.execCellQuery x bank s
  | .writeAddress address => Sys2Proof.Machine.execWriteAddress address s
  | .writeEnd => Sys2Proof.Machine.execWriteEnd s
  | .readPage address count => Sys2Proof.Machine.execReadPage address count s
  | .powerOnReset straps => Sys2Proof.Machine.execPowerOnReset straps s
  | .pinReset straps => Sys2Proof.Machine.execPinReset straps s
  | .railGoodRise bank => Sys2Proof.Machine.execRailGoodRise bank s
  | .railGoodFall bank => Sys2Proof.Machine.execRailGoodFall bank s
  | .wakeTimeout bank => Sys2Proof.Machine.execWakeTimeout bank s
  | .lingerExpiry bank => Sys2Proof.Machine.execLingerExpiry bank s
  | .bankOnNotice bank => Sys2Proof.Machine.execBankOnNotice bank s
  | .rampStep slot => Sys2Proof.Machine.execRampStep slot s
  | .rampComplete slot => Sys2Proof.Machine.execRampComplete slot s
  | .durationExpiry slot => Sys2Proof.Machine.execDurationExpiry slot s
  | .waitTimerExpiry slot => Sys2Proof.Machine.execWaitTimerExpiry slot s
  | .waitExpiryNotice h => Sys2Proof.Machine.execWaitExpiryNotice h s
  | .keepaliveExpiry x => Sys2Proof.Machine.execKeepaliveExpiry x s
  | .lapseNotice x => Sys2Proof.Machine.execLapseNotice x s
  | .conversionComplete m => Sys2Proof.Machine.execConversionComplete m s
  | .dwellElapses => Sys2Proof.Machine.execDwellElapses s
  | .resultDelivery => Sys2Proof.Machine.execResultDelivery s
  | .faultNotice => Sys2Proof.Machine.execFaultNotice s
  | .scanResultMatch => Sys2Proof.Machine.execScanResultMatch s
  | .testStepComplete loadNanoamps => Sys2Proof.Machine.execTestStepComplete loadNanoamps s
  | .writeByteReceived byte => Sys2Proof.Machine.execWriteByteReceived byte s
  | .resetHeldLow => Sys2Proof.Machine.execResetHeldLow s
  | .durationSecond slot => Sys2Proof.Machine.execDurationSecond slot s
  | .waitSecond slot => Sys2Proof.Machine.execWaitSecond slot s
  | .keepaliveSecond x => Sys2Proof.Machine.execKeepaliveSecond x s
  | .lingerSecond bank => Sys2Proof.Machine.execLingerSecond bank s

end Sys2Proof.Machine
end

