-- ==== Sys2Proof/Machine/Step.lean ====
section
/-! DEFINITION. One step: the command at the front of the queue, or the device on its own (log 4, log 24). -/

namespace Sys2Proof.Machine

/-- Takes the command at the front of the queue and answers its effect on the state with the queue's rest; with no command waiting the
device goes on by itself. -/
def step (s : State) : Host.Outcome State Fault Refusal :=
  match s.pending with
  | c :: rest => exec c { s with pending := rest }
  | [] => .next s.idle

/-- The state with the command a table word spells at the front of its queue; unchanged when the word spells none (log 24). -/
def State.withFetchWord (s : State) (nbits w : Nat) : State :=
  match decodeTableWord nbits w with
  | some c => { s with pending := c :: s.pending }
  | none => s

end Sys2Proof.Machine
end

