-- ==== Sys2Proof/Safety.lean ====
section
/-! DEFINITION. What claims about the device speak of: safe steps, sound states, and which command is the request of which seat. -/

namespace Sys2Proof.Machine

/-- A step is safe when it answers a next state: neither a fault nor a refusal. -/
def SafeStep (s : State) : Prop := ∃ t, step s = .next t

/-- Whether a lease is on its way to CLOSED or there. -/
def LeaseState.ending : LeaseState → Bool
  | .rampdown (.closed _) | .closed _ => true
  | .waiting _ _ | .starting _ | .verifying | .active _ _ | .rampdown (.suspended _) | .suspended _ => false

/-- What a bank's state says of its counts, of the leases on it and of its rail-good input: DISABLED and TESTING hold none, OFF, LINGER
and FAULTED need no rail, a wake has no driving lease and waits for rail-good, ON has a demand (R36 to R42). -/
def Bank.consistent (e : Bank) (unused : Bool) : Bool :=
  match e.state with
  | .disabled => unused
  | .testing wake => unused && (wake.isNone || !e.railGood)
  | .off | .linger _ _ | .faulted => e.driving == 0 && e.claims == 0
  | .waking _ => e.driving == 0 && !e.railGood
  | .on => e.driving + e.claims != 0

namespace State

variable (s : State)

/-- The output pins and switches stand as the rest of the state asks: every discharge switch (R46), every rail enable (2.5.2), and
ATTN# (R163). -/
def pinsAgree : Prop :=
  (∀ t, (s.terminal t).switchClosed = s.switchWanted t) ∧ (∀ b, (s.bank b).railEnable = (s.bank b).state.railEnabled) ∧
    s.seatCtl.attnLow = s.attention

/-- No slot's handle is the byte 0xFF, which means "no lease" (R2). -/
def handlesSound : Prop := ∀ k, s.handleAt k ≠ Config.noLease

/-- The request queue holds at most four frames, at most one per seat, each with its seat's busy mark set; a write in progress has its
seat's busy mark set, no frame of that seat in the queue, and room in the queue (R164, R167). -/
def portSound : Prop :=
  s.port.requestQueue.length ≤ Config.queuePlaces ∧ (s.port.requestQueue.map (·.seat)).Nodup ∧
    (∀ f ∈ s.port.requestQueue, s.busy f.seat = true) ∧
    match s.port.transaction with
    | .idle => True
    | .write x _ =>
      s.busy x = true ∧ x ∉ s.port.requestQueue.map (·.seat) ∧ s.port.requestQueue.length < Config.queuePlaces

/-! ### The lease table -/

/-- The wait list is a list of the WAITING leases, each once, and eight at most (R60). -/
def waitListSound : Prop :=
  s.allocator.waitList.Nodup ∧ s.allocator.waitList.length ≤ Config.waitPlaces ∧
    ∀ k, k ∈ s.allocator.waitList ↔ ∃ l ∈ s.lease? k, l.state.wait? ≠ none

/-- The wait list is sound (R60), every trim is within -64 to 63 (R110), a lease whose remaining is 0 is on its way to CLOSED or there
(R79, R123), and no seat holds more records than its lease quota (R132). -/
def leaseTableSound : Prop :=
  s.waitListSound ∧
    (∀ k, ∀ l ∈ s.lease? k, (∀ a ∈ l.alloc, -64 ≤ a.trim ∧ a.trim ≤ 63) ∧
      ∀ d ∈ l.duration, d.remaining = 0 → l.state.ending = true) ∧
    ∀ x, s.recordCount x ≤ (s.seat x).leaseQuota

/-! ### The allocator and the banks -/

/-- Cells and cell lists agree: an allocation stands in the holding states alone and lists cells of its bank, each once, the lead cell
not leaving, each ALLOTTED to the lease and routed to its terminal; an ALLOTTED cell is listed by its holder, and another has no
route (R11, R15, R23, R24, R44). -/
def cellsSound : Prop :=
  (∀ k, ∀ l ∈ s.lease? k, l.alloc.isSome = l.state.holding ∧ ∀ a ∈ l.alloc,
    a.cells ≠ [] ∧ (∀ e ∈ a.cells.head?, e.leaving = false) ∧ a.cellNumbers.Nodup ∧
      ∀ c ∈ a.cellNumbers, bankOf c = a.bank ∧ (s.cell c).state = .allotted (s.handleAt k) ∧
        (s.cell c).route = some l.terminal) ∧
    ∀ c, (∀ h ∈ (s.cell c).state.holder?, ∃ kl ∈ s.resolve h, ∃ a ∈ kl.2.alloc, c ∈ a.cellNumbers) ∧
      ((s.cell c).state.holder? = none → (s.cell c).route = none)

/-- The charge of the lease in a slot, 0 when it holds none. -/
def chargeAt (k : Fin 32) : Nat := (((s.lease? k).bind (·.alloc)).map (·.charge)).getD 0

/-- The committed charge of a bank is the sum of the charges of its leases and within its budget (R32, R54). -/
def budgetSound : Prop :=
  ∀ b, s.committed b = ((s.leasesOn b).map s.chargeAt).sum ∧ s.committed b ≤ (s.bank b).budget

/-- The counts of a bank are the numbers of its leases in a driving state and in STARTING–WAKE, and its state goes with them
(R35 to R42). -/
def banksSound : Prop :=
  ∀ b, (s.bank b).driving = (s.leasesOn b).countP (fun k => (s.lease? k).any (·.state.driving)) ∧
    (s.bank b).claims = (s.leasesOn b).countP (fun k => (s.lease? k).any (·.state == .starting .wake)) ∧
    (s.bank b).consistent (s.leasesOn b).isEmpty = true

/-- The holder of a terminal is the lease in a holding state that is on it, and without one the requested idle mode is in effect (R45). -/
def holdersSound : Prop :=
  (∀ k, ∀ l ∈ s.lease? k, l.state.holding = true → (s.terminal l.terminal).holder = some (s.handleAt k)) ∧
    ∀ t, (∀ h ∈ (s.terminal t).holder, ∃ kl ∈ s.resolve h, kl.2.state.holding = true ∧ kl.2.terminal = t) ∧
      ((s.terminal t).holder = none → (s.terminal t).idle = (s.terminal t).requested)

/-- The test record and the tables agree: its bank alone is in TESTING, with its rail up exactly when a cell is under test, and the
TESTING cells are those of the record from the cell under test on (R41, R139, R141). -/
def testSound : Prop :=
  (∀ t ∈ s.selfTest, t.cells ≠ [] ∧ t.cells.Pairwise (· < ·) ∧
    ((s.bank t.bank).state = .testing none ↔ t.current ≠ none) ∧ ∀ step ∈ t.current, step.cell ∈ t.cells) ∧
  (∀ b, (s.bank b).state.isTesting = true ↔ ∃ t ∈ s.selfTest, t.bank = b) ∧
  (∀ t ∈ s.selfTest, ∀ c ∈ t.cells, bankOf c = t.bank) ∧
  ∀ c, (s.cell c).state = .testing ↔ ∃ t ∈ s.selfTest, c ∈ t.cells ∧ ∀ step ∈ t.current, step.cell ≤ c

/-- A cell carries a nonzero code only where the Cell Array lets it drive: ALLOTTED to a lease in a driving state whose bank is ON, or
TESTING in a bank in TESTING (R28); a TESTING one is the cell under test (R143). -/
def codesSound : Prop :=
  ∀ c, (s.drive c).code ≠ 0 →
    s.mayDrive c = true ∧ ((s.cell c).state = .testing → ∃ t ∈ s.selfTest, ∃ step ∈ t.current, step.cell = c)

/-- Cells, charges, counts, holders, codes and the test record agree with each other and with the lease table, and no seat has more
cells ALLOTTED than its cell quota (R132). -/
def allocationSound : Prop :=
  s.cellsSound ∧ s.budgetSound ∧ s.banksSound ∧ s.holdersSound ∧ s.testSound ∧ s.codesSound ∧
    ∀ x, s.allottedCount x ≤ (s.seat x).cellQuota

end State

/-- The seat and the class of a request command (R131, R137, R152); none for the rows that are no request. -/
def requestOf : Instr → Option (Seat × RequestClass)
  | .openLease x _ | .adjust x _ | .suspend x _ | .resume x _ | .cancel x _ | .group x _ _ _ => some (x, drivingClass)
  | .release x _ => some (x, releaseClass)
  | .query x _ | .listFirst x _ | .listNext x | .touch x | .events x _ _ | .status x => some (x, readingClass)
  | .seatSet x _ | .bankSet x _ | .bankClear x _ | .scanSet x _ | .scanStart x | .scanStop x | .cellTest x _ _
  | .testAbort x | .cellOut x _ | .cellIn x _ | .terminalSet x _ _ | .hold x _ | .run x | .tripSet x _ | .tripFire x _
  | .purge x _ | .restart x | .cellQuery x _ => some (x, supervisorClass)
  | .writeAddress _ | .writeEnd | .readPage _ _ | .powerOnReset _ | .pinReset _ | .railGoodRise _ | .railGoodFall _
  | .wakeTimeout _ | .lingerExpiry _ | .bankOnNotice _ | .rampStep _ | .rampComplete _ | .durationExpiry _
  | .waitTimerExpiry _ | .waitExpiryNotice _ | .keepaliveExpiry _ | .lapseNotice _ | .conversionComplete _
  | .dwellElapses | .resultDelivery | .faultNotice | .scanResultMatch | .testStepComplete _ | .writeByteReceived _
  | .resetHeldLow | .durationSecond _ | .waitSecond _ | .keepaliveSecond _ | .lingerSecond _ => none

/-- The request is dispatched and passes the seat checks (R131, R167), which read the state it is taken in. -/
def Accepted (i : Instr) (s : State) : Prop :=
  ∃ x c, requestOf i = some (x, c) ∧ s.mayDispatch x (frameOf i) = true ∧ s.taken.seatCheck x c = none

/-- The request is dispatched, passes the seat checks, and its handle names a record its seat may act on (R3). -/
def Subject (i : Instr) (x : Seat) (h : Handle) (s : State) (k : Fin 32) (l : Lease) : Prop :=
  Accepted i s ∧ s.taken.resolve h = some (k, l) ∧ (x = .s ∨ l.owner = x)

end Sys2Proof.Machine
end

