-- ==== Sys2Proof/Certificates/Slice0/Obligations.lean ====
section
/-! DEFINITION. The statements for the provers. `s.taken` is the state a request is taken in: due completions of zero-time ramps first
(R73, log 3), and its frame off the queue (R167, log 1); `s.settle` the same for an event of the device. `t.respond i x st payload` is `t` with
the response in page x; it and `driveOutputs` set the output pins at the end of a command (log 25). -/

section

open Sys2Proof Sys2Proof.Machine

/-! ## Steps and the queue of commands -/

/-- A step takes the command at the front of the queue and answers its effect on the state with the queue's rest. -/
def Obligations.StepRunsFrontCommand : Prop :=
  ∀ (c : Instr) (rest : List Instr) (s : State), s.pending = c :: rest → step s = exec c { s with pending := rest }

/-- With no command waiting, the first work due inside the device becomes the waiting command, else the clock ticks (log 4: the model's
choice). Due are: the completion of the lowest zero-time ramp, the oldest frame, what is handed and not yet taken, a wake timer at 0, a
whole second gathered in RUN (its expiry row when it is the last one, log 21), a ramp's next step or completion, and a dwell at 0; a
zero-time completion goes first and the frame next. A tick lets 1/32 ms pass: wake timers, ramps, the dwell, the conversion and the test
step run in HOLD as in RUN; the part-seconds of linger, duration, wait and keepalive grow in RUN only. -/
def Obligations.EmptyQueueStepAdvancesDevice : Prop :=
  (∀ s : State, s.pending = [] →
    (∀ c cs, s.due = c :: cs → step s = .next { s with pending := [c] }) ∧ (s.due = [] → step s = .next s.clockTick)) ∧
  (∀ s : State,
    let ramping (k : Fin 32) (r : Ramp) := ∃ l, s.lease? k = some l ∧ l.ramp = some r
    let zero (k : Fin 32) := ∃ r, ramping k r ∧ r.time = 0
    let second (part : Nat) := s.held = false ∧ 32000 ≤ part
    let running (k : Fin 32) (d : Duration) :=
      ∃ l st part, s.lease? k = some l ∧ l.state = .active st part ∧ l.duration = some d ∧ second part
    let waiting (k : Fin 32) (n : Nat) := ∃ l part, s.lease? k = some l ∧ l.state = .waiting n part ∧ second part
    let armed (x : Seat) (n : Nat) := ∃ part, (s.seat x).keepalive = .armed n part ∧ second part
    let lingers (b : Fin 4) (n : Nat) := ∃ part, (s.bank b).state = .linger n part ∧ second part
    (∀ k, zero k → (∀ j, j < k → ¬zero j) → s.due.head? = some (.rampComplete k)) ∧
    (∀ f rest i, (∀ k, ¬zero k) → s.port.requestQueue = f :: rest → commandOf f = some i → s.due.head? = some i) ∧
    ∀ c, c ∈ s.due ↔
      (∃ f rest, s.port.requestQueue = f :: rest ∧ commandOf f = some c) ∨
      match c with
      | .rampComplete k => (zero k ∧ ∀ j, j < k → ¬zero j) ∨ ∃ r, ramping k r ∧ 32 ≤ r.step
      | .rampStep k => ∃ r, ramping k r ∧ r.step < 32 ∧ (r.step + 1) * r.time ≤ r.elapsed
      | .bankOnNotice b => b ∈ s.engine.bankOnNotices
      | .lapseNotice x => ∃ n ∈ s.engine.lapseNotices, n.seat = x
      | .resultDelivery => s.engine.results ≠ []
      | .waitExpiryNotice h => h ∈ s.allocator.waitExpiryNotices
      | .faultNotice => ∃ n ∈ s.pool.notices, n.isFault = true
      | .scanResultMatch => ∃ n ∈ s.pool.notices, n.isFault = false
      | .wakeTimeout b => (s.bank b).state = .waking 0 ∨ (s.bank b).state = .testing (some 0)
      | .lingerSecond b => ∃ n, lingers b n ∧ 2 ≤ n
      | .lingerExpiry b => ∃ n, lingers b n ∧ n ≤ 1
      | .durationSecond k => ∃ d, running k d ∧ 2 ≤ d.remaining
      | .durationExpiry k => ∃ d, running k d ∧ d.remaining ≤ 1
      | .waitSecond k => ∃ n, waiting k n ∧ 2 ≤ n
      | .waitTimerExpiry k => waiting k 1
      | .keepaliveSecond x => ∃ n, armed x n ∧ 2 ≤ n
      | .keepaliveExpiry x => ∃ n, armed x n ∧ n ≤ 1
      | .dwellElapses => s.meas.dwell = some 0
      | _ => False) ∧
  ∀ s : State,
    let t := s.clockTick
    let counted (part : Nat) := if s.held then part else part + 1
    (∀ b, t.bank b = match (s.bank b).state with
      | .waking w => { s.bank b with state := .waking (w - 1) }
      | .testing (some w) => { s.bank b with state := .testing (some (w - 1)) }
      | .linger n part => { s.bank b with state := .linger n (counted part) }
      | _ => s.bank b) ∧
    (∀ k, (t.slot k).gen = (s.slot k).gen ∧ t.lease? k = (s.lease? k).map fun l => { l with
      ramp := l.ramp.map fun r => { r with elapsed := r.elapsed + 1 }
      state := match l.state with
        | .active st part => if l.duration.isSome then .active st (counted part) else .active st part
        | .waiting n part => .waiting n (counted part)
        | st => st }) ∧
    (∀ x, t.seat x = match (s.seat x).keepalive with
      | .armed n part => { s.seat x with keepalive := .armed n (counted part) }
      | _ => s.seat x) ∧
    t.meas = { s.meas with
      dwell := s.meas.dwell.map (· - 1)
      conversion := s.meas.conversion.map fun c => { c with timeLeft := c.timeLeft - 1 } } ∧
    t.selfTest = (s.selfTest.map fun u => { u with
      current := u.current.map fun step => { step with timeLeft := step.timeLeft - 1 } }) ∧
    t = { s with
      banks := t.banks, engine := { s.engine with slots := t.engine.slots }
      seatCtl := { s.seatCtl with seats := t.seatCtl.seats }, meas := t.meas, selfTest := t.selfTest }

/-- No command stops the device, and none touches the queue of waiting commands; only a device reset samples the straps. -/
def Obligations.EveryCommandCompletes : Prop :=
  ∀ (c : Instr) (s : State), ∃ t, exec c s = .next t ∧ t.pending = s.pending ∧
    ((∀ st, c ≠ .powerOnReset st ∧ c ≠ .pinReset st) → t.straps = s.straps)

/-! ## Invariants -/

/-- Every step keeps the switches, the rail enables and ATTN# as the rest of the state asks. A discharge switch is closed exactly when the idle mode
in effect is DISCHARGE and the terminal has no holder, or a holder in STARTING–WAKE or SUSPENDED (R46); a rail enable is high exactly in
WAKING, ON, LINGER and TESTING (2.5.2); ATTN# is low exactly when some enabled seat has an event that is latched, not acknowledged, and let
through by its mask (R163). -/
def Obligations.StepKeepsPinsAgreeing : Prop :=
  (∀ s t : State, s.pinsAgree → step s = .next t → t.pinsAgree) ∧
  ∀ s : State,
    (s.pinsAgree ↔ (∀ n, (s.terminal n).switchClosed = s.switchWanted n) ∧
      (∀ b, (s.bank b).railEnable = (s.bank b).state.railEnabled) ∧ s.seatCtl.attnLow = s.attention) ∧
    (∀ n, s.switchWanted n = true ↔ (s.terminal n).idle = .discharge ∧ ((s.terminal n).holder = none ∨
      ∃ h k l, (s.terminal n).holder = some h ∧ s.resolve h = some (k, l) ∧
        (l.state = .starting .wake ∨ ∃ why, l.state = .suspended why))) ∧
    (∀ st : BankState, st.railEnabled = true ↔
      (∃ w, st = .waking w) ∨ st = .on ∨ (∃ n u, st = .linger n u) ∨ ∃ w, st = .testing w) ∧
    (s.attention = true ↔ ∃ x, (s.seat x).enabled = true ∧ ∃ i, i < 16 ∧ (s.seat x).latched.getLsbD i = true ∧
      (s.seat x).acked.getLsbD i = false ∧ (s.seat x).mask.getLsbD i = true)

/-- No step makes 0xFF the handle of a slot (R2). -/
def Obligations.StepKeepsHandlesSound : Prop :=
  ∀ s t : State, s.handlesSound → step s = .next t → t.handlesSound

/-- Every step keeps the request queue within four frames, one per seat, each under its seat's busy mark (R164, R167). -/
def Obligations.StepKeepsPortSound : Prop :=
  ∀ s t : State, s.portSound → step s = .next t → t.portSound

/-- Every step keeps the lease table sound: the wait list holds the WAITING leases, each once and eight at most (R60), trims stay within -64 to
63 (R110), remaining is 0 only on the way to CLOSED (R79, R123), and record counts stay within the lease quotas (R132). -/
def Obligations.StepKeepsLeaseTableSound : Prop :=
  ∀ s t : State, s.leaseTableSound → step s = .next t → t.leaseTableSound

/-- Every step keeps the allocator and the banks sound: ALLOTTED cells agree with the cell lists (R24), committed charges are the sums of charges
and within the budgets (R32), bank counts are those of the leases (R35), holders those of the terminals (R45), TESTING cells those of the
test record (R141), and allotted counts within the cell quotas (R132). A cell's code is nonzero only while the cell is ALLOTTED to a lease in a
driving state whose bank is ON, or TESTING, the cell under test, in a bank in TESTING (R28). The premise that no slot's handle is 0xFF is a
statement of its own. -/
def Obligations.StepKeepsAllocationSound : Prop :=
  (∀ s t : State, s.handlesSound → s.allocationSound → step s = .next t → t.allocationSound) ∧
  ∀ (s : State) (c : Fin 24),
    let e := (s.bank ⟨c.val / 6, by omega⟩).state
    let driving (st : LeaseState) :=
      st = .starting .ramp ∨ st = .verifying ∨ (∃ strike u, st = .active strike u) ∨ ∃ d, st = .rampdown d
    let allotted := ∃ h k l, (s.cell c).state = .allotted h ∧ s.resolve h = some (k, l) ∧ driving l.state ∧ e = .on
    let testing := (s.cell c).state = .testing ∧ ∃ w, e = .testing w
    (s.mayDrive c = true ↔ allotted ∨ testing) ∧
    (s.allocationSound → (s.drive c).code ≠ 0 →
      allotted ∨ (testing ∧ ∃ t step, s.selfTest = some t ∧ t.current = some step ∧ step.cell = c))

/-- The five invariants hold right after reset, whatever the straps (rail-good levels are kept: log 8). -/
def Obligations.ResetSatisfiesInvariants : Prop :=
  let good (s : State) := s.pinsAgree ∧ s.handlesSound ∧ s.portSound ∧ s.leaseTableSound ∧ s.allocationSound
  good State.reset ∧
    ∀ (i : Instr) (st : Straps) (s : State), i = .powerOnReset st ∨ i = .pinReset st → ∃ t, exec i s = .next t ∧ good t

/-! ## Frames on the wire (0.6, R165 to R168, 11.5) -/

/-- Every request command reads back from its frame with every operand, and a frame that reads as a command is that command's frame. Each
request's code and parameter bytes are those of 11.5, two- and three-byte fields low byte first, and the lengths a code allows are those of the
table of request codes. -/
def Obligations.FramesReadBack : Prop :=
  (∀ (i : Instr) (f : Frame), frameOf i = some f → commandOf f = some i) ∧
  (∀ (f : Frame) (i : Instr), commandOf f = some i → frameOf i = some f) ∧
  (∀ i : Instr, frameOf i = none ↔ requestOf i = none) ∧
  (∀ (x : Seat) (h : Handle) (u v w : Byte) (ack mask : BitVec 16) (o : OpenParams) (d : AdjustParams) (n : SeatSetParams)
      (r : BankSetParams) (m : ScanSetParams) (q : TripSetParams),
    let at' (field j : Nat) : Byte := BitVec.ofNat 8 (field / 256 ^ j)
    let two (field : BitVec 16) := [at' field.toNat 0, at' field.toNat 1]
    let three (field : BitVec 24) := [at' field.toNat 0, at' field.toNat 1, at' field.toNat 2]
    ∀ e ∈ ([
        (.openLease x o, 0x10#8, [o.terminal] ++ three o.target ++ two o.compliance ++ [o.flags] ++ two o.waitLimit ++
          two o.durationCount ++ two o.rampTime ++ two o.tolerance ++ [o.groupTag]),
        (.adjust x d, 0x11#8, [d.handle, d.presence] ++ three d.target ++ two d.extension),
        (.suspend x h, 0x12#8, [h]), (.resume x h, 0x13#8, [h]), (.cancel x h, 0x14#8, [h]), (.release x h, 0x15#8, [h]),
        (.query x h, 0x16#8, [h]), (.listFirst x none, 0x17#8, []), (.listFirst x (some u), 0x17#8, [u]),
        (.listNext x, 0x18#8, []), (.group x u v w, 0x19#8, [u, v, w]), (.touch x, 0x1A#8, []),
        (.events x ack none, 0x1B#8, two ack), (.events x ack (some mask), 0x1B#8, two ack ++ two mask),
        (.status x, 0x1C#8, []),
        (.seatSet x n, 0x20#8, [n.seat, n.presence, n.address, n.enable, n.leaseQuota, n.cellQuota, n.period, n.policy]),
        (.bankSet x r, 0x21#8, [r.bank, r.presence] ++ two r.rail ++ two r.budget ++ [r.linger, r.enable]),
        (.bankClear x u, 0x22#8, [u]),
        (.scanSet x m, 0x23#8, [m.averaging, m.offset, m.dwell, m.mode, m.terminal]),
        (.scanStart x, 0x24#8, []), (.scanStop x, 0x25#8, []), (.cellTest x u v, 0x26#8, [u, v]),
        (.testAbort x, 0x27#8, []), (.cellOut x u, 0x28#8, [u]), (.cellIn x u, 0x29#8, [u]),
        (.terminalSet x u v, 0x2A#8, [u, v]), (.hold x none, 0x2B#8, []), (.hold x (some u), 0x2B#8, [u]),
        (.run x, 0x2C#8, []),
        (.tripSet x q, 0x2D#8, [q.entry, q.terminal, q.condition] ++ three q.threshold ++ [q.armed]),
        (.tripFire x u, 0x2E#8, [u]), (.purge x h, 0x2F#8, [h]), (.restart x, 0x30#8, []),
        (.cellQuery x u, 0x31#8, [u])] : List (Instr × Byte × List Byte)),
      frameOf e.1 = some ⟨x, e.2.1, e.2.2⟩ ∧ codeOf e.1 = e.2.1) ∧
  ∀ (code : Byte) (lengths : List Nat), allowedLengths code = some lengths ↔ (code, lengths) ∈
    [(0x10#8, [16]), (0x11#8, [7]), (0x12#8, [1]), (0x13#8, [1]), (0x14#8, [1]), (0x15#8, [1]), (0x16#8, [1]), (0x17#8, [0, 1]),
      (0x18#8, [0]), (0x19#8, [3]), (0x1A#8, [0]), (0x1B#8, [2, 4]), (0x1C#8, [0]), (0x20#8, [8]), (0x21#8, [8]), (0x22#8, [1]),
      (0x23#8, [5]), (0x24#8, [0]), (0x25#8, [0]), (0x26#8, [2]), (0x27#8, [0]), (0x28#8, [1]), (0x29#8, [1]), (0x2A#8, [2]),
      (0x2B#8, [0, 1]), (0x2C#8, [0]), (0x2D#8, [7]), (0x2E#8, [1]), (0x2F#8, [1]), (0x30#8, [0]), (0x31#8, [1])]

/-- The bytes of a request's frame, with their check code, put the frame at the end of the request queue and the page in PENDING; nothing
else changes, the busy mark included. The check code is the CRC-8 of polynomial x^8 + x^2 + x + 1, initial value 0, taken byte by byte. -/
def Obligations.WrittenFrameIsQueued : Prop :=
  crc8 [] = 0x00#8 ∧
  (∀ (bytes : List Byte) (b : Byte),
    let shift (c : Byte) : Byte := if c.getLsbD 7 then (c <<< 1) ^^^ 0x07#8 else c <<< 1
    crc8 (bytes ++ [b]) = shift (shift (shift (shift (shift (shift (shift (shift (crc8 bytes ^^^ b))))))))) ∧
  ∀ (i : Instr) (f : Frame) (s : State), frameOf i = some f →
    let body := f.code :: BitVec.ofNat 8 f.params.length :: f.params
    let s1 := s.setTransaction .idle
    s.port.transaction = .write f.seat (body ++ [crc8 body]) →
      f.params.length ≤ 24 ∧
      exec .writeEnd s = .next ({ s1 with port := { s1.port with requestQueue := s1.port.requestQueue ++ [f] } }.setPage
        f.seat ⟨0x01#8, f.code, []⟩)

/-- The end of a write that is no good frame: the first case of R165 that applies answers at once in the page, or, for a write without a
byte, leaves the page. The busy mark is cleared, and nothing is queued. With no write in progress, the end of a write has no effect (log 2). -/
def Obligations.BadWriteIsAnsweredAtOnce : Prop :=
  (∀ s : State, s.port.transaction = .idle → exec .writeEnd s = .next s) ∧
  ∀ (x : Seat) (s : State) (received : List Byte), s.port.transaction = .write x received →
    let code := received.getD 0 0#8
    let len := (received.getD 1 0#8).toNat
    let s1 := s.setTransaction .idle
    let answered (st : Byte) := Host.Outcome.next ((s1.setPage x ⟨st, code, []⟩).setBusy x false)
    (received = [] → exec .writeEnd s = .next (s1.setBusy x false)) ∧
    (received ≠ [] → received.length < len + 3 ∨ 24 < len ∨ received.length < 2 → exec .writeEnd s = answered 0x10#8) ∧
    (2 ≤ received.length → len + 3 ≤ received.length → len ≤ 24 →
      (received.getD (len + 2) 0#8 ≠ crc8 (received.take (len + 2)) → exec .writeEnd s = answered 0x10#8) ∧
      (received.getD (len + 2) 0#8 = crc8 (received.take (len + 2)) →
        (allowedLengths code = none → exec .writeEnd s = answered 0x11#8) ∧
        (∀ ls, allowedLengths code = some ls → len ∉ ls → exec .writeEnd s = answered 0x10#8)))

/-- A write address is acknowledged at the address of an enabled seat whose busy mark is clear while the queue has room, and then the seat's
busy mark is set; every other write address is not acknowledged and changes nothing. A START ends a write in progress first (log 20). The
bytes of a write are acknowledged by their place and the length byte (R165): the code always, a length up to 24, then parameters and
check code, and no later byte. A byte that is not acknowledged is not received, but for the length byte, which the judgement needs
(log 28). A byte with no write in progress is not acknowledged and changes nothing else (log 2), and no address is acknowledged while RESET# is
held low (R171). -/
def Obligations.WritesAreAcknowledgedByPlace : Prop :=
  (∀ (s : State) (a : BitVec 7), s.port.transaction = .idle → s.port.resetLow = false →
    (∀ x, s.seatAt a = some x → s.port.requestQueue.length < 4 → s.busy x = false →
      exec (.writeAddress a) s = .next (((s.setBusy x true).setTransaction (.write x [])).setAck true)) ∧
    (∀ x, s.seatAt a = some x → 4 ≤ s.port.requestQueue.length ∨ s.busy x = true →
      exec (.writeAddress a) s = .next (s.setAck false)) ∧
    (s.seatAt a = none → exec (.writeAddress a) s = .next (s.setAck false))) ∧
  (∀ (s : State) (a : BitVec 7), s.port.transaction = .idle → s.port.resetLow = true →
    exec (.writeAddress a) s = .next (s.setAck false)) ∧
  (∀ (s : State) (b : Byte), s.port.transaction = .idle → exec (.writeByteReceived b) s = .next (s.setAck false)) ∧
  (∀ (s : State) (a : BitVec 7),
    (∀ x, s.seatAt a = some x → (s.seat x).enabled = true ∧ (s.seat x).address = a) ∧
    (s.seatAt a = none → ∀ x, (s.seat x).enabled = true → (s.seat x).address ≠ a)) ∧
  (∀ (s t : State) (a : BitVec 7) (n : Nat), exec .writeEnd s = .next t →
    exec (.writeAddress a) s = exec (.writeAddress a) t ∧ exec (.readPage a n) s = exec (.readPage a n) t) ∧
  ∀ (x : Seat) (s : State) (received : List Byte) (b : Byte), s.port.transaction = .write x received →
    let len := (received.getD 1 0#8).toNat
    let kept := s.setTransaction (.write x (received ++ [b]))
    (received.length = 0 → exec (.writeByteReceived b) s = .next (kept.setAck true)) ∧
    (received.length = 1 → exec (.writeByteReceived b) s = .next (kept.setAck (decide (b.toNat ≤ 24)))) ∧
    (2 ≤ received.length → len ≤ 24 → received.length < len + 3 →
      exec (.writeByteReceived b) s = .next (kept.setAck true)) ∧
    (2 ≤ received.length → 24 < len ∨ len + 3 ≤ received.length →
      exec (.writeByteReceived b) s = .next (s.setAck false))

/-- A read returns the seat's page from its first byte, and 0xFF beyond it; it changes neither the page nor anything else of the device. At the
address of no enabled seat it is not acknowledged and returns nothing (R164). -/
def Obligations.ReadReturnsPage : Prop :=
  (∀ (s : State) (a : BitVec 7) (n : Nat), s.port.transaction = .idle → s.seatAt a = none →
    exec (.readPage a n) s = .next (s.setAck false)) ∧
  ∀ (s : State) (a : BitVec 7) (x : Seat) (n : Nat), s.port.transaction = .idle → s.port.resetLow = false →
    s.seatAt a = some x →
      let p := s.page x
      let body := [p.status, p.code, BitVec.ofNat 8 p.payload.length] ++ p.payload
      ∃ data, exec (.readPage a n) s = .next { s with port := { s.port with ack := true, readData := data } } ∧
        data.length = n ∧ (body ++ [crc8 body]).length = p.payload.length + 4 ∧
        ∀ j < n, data[j]? = some ((body ++ [crc8 body]).getD j 0xFF#8)

/-! ## Resets -/

/-- A device reset empties the lease table: generation 0 everywhere, the next record at handle 0x00, no record counted. -/
def Obligations.DeviceResetEmptiesLeaseTable : Prop :=
  ∀ (i : Instr) (st : Straps) (s : State), i = .powerOnReset st ∨ i = .pinReset st →
    ∃ t, exec i s = .next t ∧ (∀ k, t.slot k = ⟨0, none⟩) ∧ t.emptySlot? = some 0 ∧ t.handleAt 0 = 0x00#8 ∧
      ∀ x, t.recordCount x = 0

/-- A device reset sets the seat table, and the port answers at the supervisor's address alone (R33, R127, R158; the mask marks of events a
seat cannot receive are the model's choice, log 11). -/
def Obligations.DeviceResetSetsSeats : Prop :=
  ∀ (i : Instr) (st : Straps) (s : State), i = .powerOnReset st ∨ i = .pinReset st →
    ∃ t, exec i s = .next t ∧
      t.seat .s = { address := 0x48#7 + st.sadr.setWidth 7, enabled := true, leaseQuota := 32, cellQuota := 24, period := none
                    policy := none, keepalive := .disarmed, latched := 0#16, acked := 0#16, mask := 0x01FF#16, cursor := 0
                    cursorFilter := .all } ∧
      (∀ x a, (x, a) ∈ [(Seat.a, 0x60#7), (Seat.b, 0x61#7), (Seat.c, 0x62#7), (Seat.d, 0x63#7)] →
        t.seat x = { address := a, enabled := false, leaseQuota := 8, cellQuota := 6, period := some 0
                     policy := some .suspendAll, keepalive := .disarmed, latched := 0#16, acked := 0#16
                     mask := 0x01FF#16, cursor := 0, cursorFilter := .all }) ∧
      t.seatCtl.ackInHold = false ∧ t.seatCtl.attnLow = false ∧ (∀ x, t.recordCount x = 0 ∧ t.allottedCount x = 0) ∧
      ∀ a, t.seatAt a = if a = 0x48#7 + st.sadr.setWidth 7 then some .s else none

/-- A device reset on the cells, banks, terminals, wait list, Measurement Unit, Pool Control and Self-Test Unit (R23, R28, R32, R33, R44, R45,
R60, R94 for the conversion, R97, R102, R139, R149, R155; that the rail-good level last seen is kept is the model's choice, log 8).
On the port: transaction abandoned, queue empty, pages IDLE (their bytes by R168), busy marks clear, ATTN# released, straps sampled (R171;
the record of the acknowledge bit is the model's, log 9). While RESET# is held low the transaction is abandoned, SDA released, and no
address is answered (R171); that everything else stays as it is until the release is the model's choice (log 10), and so is that the port answers
again at the end of a POR taken while RESET# is still low (log 32). -/
def Obligations.DeviceResetSetsBlocks : Prop :=
  (∀ (i : Instr) (st : Straps) (s : State), i = .powerOnReset st ∨ i = .pinReset st →
    ∃ t, exec i s = .next t ∧ t.straps = st ∧
      (∀ c, t.cell c = ⟨.free, .untested, none⟩ ∧ t.drive c = ⟨0, .low⟩) ∧
      (∀ b : Fin 4, t.committed b = 0 ∧
        t.bank b = { strapEnabled := decide (b.val < st.bcnt.toNat + 1)
                     state := if b.val < st.bcnt.toNat + 1 then .off else .disabled, rail := 12000, budget := 4000
                     lingerTime := 5, driving := 0, claims := 0, railEnable := false, railGood := (s.bank b).railGood }) ∧
      (∀ n, t.terminal n = ⟨none, .discharge, .discharge, true⟩) ∧ t.allocator.waitList = [] ∧
      t.meas.verifyQueue = [] ∧ t.meas.conversion = none ∧ t.meas.running = true ∧
      t.meas.active = ⟨2, true, 10, .roundRobin⟩ ∧ t.meas.pending = ⟨2, true, 10, .roundRobin⟩ ∧ t.meas.position = 15 ∧
      t.meas.dwell = none ∧ t.meas.visitDue = true ∧
      t.pool.state = .run ∧ (∀ n : Fin 4, t.pool.trips[n] = ⟨0, .fault, 0, false, false⟩) ∧ t.selfTest = none ∧
      t.engine.bankOnNotices = [] ∧ t.engine.lapseNotices = [] ∧ t.engine.results = [] ∧
      t.allocator.waitExpiryNotices = [] ∧ t.pool.notices = []) ∧
  (∀ (i : Instr) (st : Straps) (s : State), i = .powerOnReset st ∨ i = .pinReset st →
    ∃ t, exec i s = .next t ∧ t.port.transaction = .idle ∧ t.port.ack = false ∧ t.port.resetLow = false ∧
      t.port.requestQueue = [] ∧ (∀ x, t.page x = ⟨0x00#8, 0x00#8, []⟩ ∧ (t.page x).bytes = [0#8, 0#8, 0#8, 0#8]) ∧
      (∀ x, t.busy x = false) ∧ t.seatCtl.attnLow = false ∧ t.straps = st ∧
      ∀ a, t.seatAt a = if a = 0x48#7 + st.sadr.setWidth 7 then some .s else none) ∧
  ∀ s : State, ∃ t, exec .resetHeldLow s = .next t ∧
    t = { s with port := { s.port with transaction := .idle, ack := false, resetLow := true } } ∧
    ∀ a n, exec (.writeAddress a) t = .next t ∧ exec (.readPage a n) t = .next t

/-- RESTART answers OK, empties the tables of the blocks, discards what is handed and not yet taken, and keeps configurations, straps and rail-good
levels, the rest of the port, the conversion in flight and, when the scan is STOPPED, its dwell and visit. -/
def Obligations.RestartResetsBlocks : Prop :=
  ∀ (x : Seat) (s : State), Accepted (.restart x) s →
    let s1 := s.taken
    ∃ t, exec (.restart x) s = .next t ∧
      t.page x = ⟨0x02#8, 0x30#8, []⟩ ∧ t.busy x = false ∧
      (∀ y, y ≠ x → t.page y = s1.page y ∧ t.busy y = s1.busy y) ∧
      t.port.requestQueue = s1.port.requestQueue ∧ t.port.transaction = s1.port.transaction ∧
      t.port.resetLow = s1.port.resetLow ∧ t.port.ack = s1.port.ack ∧ t.port.readData = s1.port.readData ∧
      t.straps = s1.straps ∧ t.pending = s1.pending ∧
      (∀ k, let g := (s1.slot k).gen
        let advanced : Fin 8 := if k = 31 ∧ g = 6 then 0 else if g = 7 then 0 else g + 1
        t.slot k = ⟨if (s1.lease? k).isSome then advanced else g, none⟩) ∧
      (∀ y, let e := s1.seat y; let f := t.seat y
        f.address = e.address ∧ f.enabled = e.enabled ∧ f.leaseQuota = e.leaseQuota ∧ f.cellQuota = e.cellQuota ∧
        f.period = e.period ∧ f.policy = e.policy ∧ f.mask = e.mask ∧ f.latched = 0#16 ∧ f.acked = 0#16 ∧
        f.cursor = 0 ∧ f.cursorFilter = .all ∧
        (e.keepalive = .disarmed → f.keepalive = .disarmed) ∧
        (e.keepalive ≠ .disarmed → ∀ n, e.period = some n →
          f.keepalive = if n = 0 then .disarmed else .armed n 0)) ∧
      (∀ c, (t.drive c).code = 0 ∧ (t.drive c).range = (s1.drive c).range ∧ (t.cell c).route = none ∧
        (t.cell c).lastResult = (s1.cell c).lastResult ∧
        (t.cell c).state = match (s1.cell c).state with
          | .outOfService w => .outOfService w
          | .free | .allotted _ | .testing => .free) ∧
      (∀ b, t.committed b = 0 ∧ (t.bank b).driving = 0 ∧ (t.bank b).claims = 0 ∧ (t.bank b).railEnable = false ∧
        (t.bank b).state = (if (s1.bank b).state = .disabled then .disabled else .off) ∧
        (t.bank b).rail = (s1.bank b).rail ∧ (t.bank b).budget = (s1.bank b).budget ∧
        (t.bank b).lingerTime = (s1.bank b).lingerTime ∧ (t.bank b).strapEnabled = (s1.bank b).strapEnabled ∧
        (t.bank b).railGood = (s1.bank b).railGood) ∧
      (∀ n, t.terminal n = { holder := none, idle := (s1.terminal n).requested, requested := (s1.terminal n).requested
                             switchClosed := decide ((s1.terminal n).requested = .discharge) }) ∧
      t.allocator.waitList = [] ∧ t.meas.verifyQueue = [] ∧ t.meas.position = 15 ∧
      t.meas.active = s1.meas.active ∧ t.meas.pending = s1.meas.pending ∧ t.meas.running = s1.meas.running ∧
      t.meas.conversion = s1.meas.conversion ∧
      (s1.meas.running = true → t.meas.dwell = none ∧ t.meas.visitDue = true) ∧
      (s1.meas.running = false → t.meas.dwell = s1.meas.dwell ∧ t.meas.visitDue = s1.meas.visitDue) ∧
      t.pool.state = .run ∧ (∀ n : Fin 4, t.pool.trips[n] = { s1.pool.trips[n] with fired := false }) ∧
      t.selfTest = none ∧ t.seatCtl.ackInHold = s1.seatCtl.ackInHold ∧ t.seatCtl.attnLow = false ∧
      t.engine.bankOnNotices = [] ∧ t.engine.lapseNotices = [] ∧ t.engine.results = [] ∧
      t.allocator.waitExpiryNotices = [] ∧ t.pool.notices = []

/-! ## Requests: the seat checks, handles, responses -/

/-- The seat checks, in order: disabled, permission, hold, lapse. The first that fails gives the response, and nothing else changes; a refused
OPEN carries handle 0xFF and no sub-reason (log 15 for NOT_PERMITTED), every other an empty payload. A command whose frame is not the oldest of
the queue, or which with an empty queue finds its seat busy or RESET# low, has no effect (log 1: the model's choice). -/
def Obligations.SeatChecksGiveTheResponse : Prop :=
  (∀ s : State, (∀ x, s.lapsed x = true ↔ (s.seat x).keepalive = .lapsed) ∧ (s.held = true ↔ s.pool.state ≠ .run)) ∧
  (∀ s : State, let u := s.settle
    s.taken = { u with port := { u.port with requestQueue := u.port.requestQueue.tail } }) ∧
  (∀ (s : State) (x : Seat) (f : Frame), s.mayDispatch x (some f) = true ↔
    (s.port.requestQueue = [] ∧ s.busy x = false ∧ s.port.resetLow = false) ∨ ∃ rest, s.port.requestQueue = f :: rest) ∧
  (∀ (i : Instr) (x : Seat) (c : RequestClass) (s : State), requestOf i = some (x, c) →
    s.mayDispatch x (frameOf i) = false → exec i s = .next s) ∧
  ∀ (i : Instr) (x : Seat) (c : RequestClass) (s : State), requestOf i = some (x, c) → s.mayDispatch x (frameOf i) = true →
    let s1 := s.taken
    let code := (codeOf i).toNat
    let payload := if code = 0x10 then [0xFF#8, 0x00#8] else []
    let supervisor := 0x20 ≤ code
    let heldInHold := code ∈ [0x10, 0x11, 0x12, 0x13, 0x14, 0x19]
    let refusedLapsed := code ∈ [0x10, 0x11, 0x12, 0x13, 0x14, 0x15, 0x19]
    ((s1.seat x).enabled = false → exec i s = .next (s1.respond i x .notPermitted payload)) ∧
    ((s1.seat x).enabled = true →
      (supervisor → x ≠ .s → exec i s = .next (s1.respond i x .notPermitted payload)) ∧
      (¬supervisor ∨ x = .s →
        (heldInHold → x ≠ .s → s1.held = true → exec i s = .next (s1.respond i x .held payload)) ∧
        (¬heldInHold ∨ x = .s ∨ s1.held = false →
          (refusedLapsed → s1.lapsed x = true → exec i s = .next (s1.respond i x .lapsed payload)) ∧
          (¬refusedLapsed ∨ s1.lapsed x = false → Accepted i s))))

/-- What a response does: it replaces the seat's page and clears its busy mark. The other pages, the frames still queued and the lease table
stay, and every output pin stands as the state asks; nothing else changes. The status codes are those of 11.5. -/
def Obligations.ResponseReplacesPage : Prop :=
  (∀ e ∈ [(Status.idle, 0x00#8), (.pending, 0x01#8), (.ok, 0x02#8), (.queued, 0x03#8), (.endOfList, 0x04#8), (.frameError, 0x10#8),
      (.unknownRequest, 0x11#8), (.badParam, 0x12#8), (.notPermitted, 0x13#8), (.unknownHandle, 0x14#8), (.notOwner, 0x15#8),
      (.wrongState, 0x16#8), (.tableFull, 0x17#8), (.noResources, 0x18#8), (.quota, 0x19#8), (.waitFull, 0x1A#8),
      (.rangeExceeded, 0x1B#8), (.held, 0x1C#8), (.lapsed, 0x1D#8), (.bankUnavailable, 0x1E#8), (.bankBusy, 0x1F#8),
      (.seatBusy, 0x20#8)], e.1.code = e.2) ∧
  (∀ s : State,
    let t := s.driveOutputs
    t = { s with
      allocator := { s.allocator with terminals := t.allocator.terminals }, banks := t.banks
      seatCtl := { s.seatCtl with attnLow := t.seatCtl.attnLow } } ∧ t.pinsAgree ∧
    (∀ b, t.bank b = { s.bank b with railEnable := (s.bank b).state.railEnabled }) ∧
    ∀ n, t.terminal n = { s.terminal n with switchClosed := s.switchWanted n }) ∧
  ∀ (s : State) (i : Instr) (x : Seat) (st : Status) (payload : List Byte),
    let t := s.respond i x st payload
    t.page x = ⟨st.code, codeOf i, payload⟩ ∧ t.busy x = false ∧
    (∀ y, y ≠ x → t.page y = s.page y ∧ t.busy y = s.busy y) ∧ t.port.requestQueue = s.port.requestQueue ∧
    t.port.transaction = s.port.transaction ∧ t.port.resetLow = s.port.resetLow ∧ t.port.ack = s.port.ack ∧
    t.port.readData = s.port.readData ∧ t.seatCtl.ackInHold = s.seatCtl.ackInHold ∧
    t.allocator.waitExpiryNotices = s.allocator.waitExpiryNotices ∧ t.straps = s.straps ∧ t.pending = s.pending ∧ t.engine = s.engine ∧ t.cellArray = s.cellArray ∧ t.meas = s.meas ∧
    t.pool = s.pool ∧ t.selfTest = s.selfTest ∧ (∀ y, t.seat y = s.seat y) ∧ (∀ c, t.cell c = s.cell c) ∧
    t.allocator.waitList = s.allocator.waitList ∧ (∀ b, t.committed b = s.committed b) ∧
    (∀ b, t.bank b = { s.bank b with railEnable := (s.bank b).state.railEnabled }) ∧
    (∀ n, t.terminal n = { s.terminal n with switchClosed := s.switchWanted n }) ∧ t.pinsAgree

/-- The seven requests that name a handle: UNKNOWN_HANDLE for a handle that names no record, 0xFF always; NOT_OWNER for a tenant when another
seat owns the record; nothing else changes. A handle names the record whose slot and generation it carries, the slot in its low five bits and
the generation in its high three (R2). -/
def Obligations.HandlesAreResolvedFirst : Prop :=
  (∀ (i : Instr) (x : Seat) (h : Handle) (s : State),
    (∃ p : AdjustParams, i = .adjust x p ∧ p.handle = h) ∨
      i ∈ [.suspend x h, .resume x h, .cancel x h, .release x h, .query x h, .purge x h] →
    Accepted i s →
      (s.taken.resolve h = none → exec i s = .next (s.taken.respond i x .unknownHandle [])) ∧
      ∀ k l, s.taken.resolve h = some (k, l) → x ≠ .s → l.owner ≠ x →
        exec i s = .next (s.taken.respond i x .notOwner [])) ∧
  (∀ (s : State) (k : Fin 32), (s.handleAt k).toNat = 32 * (s.slot k).gen.val + k.val ∧ s.lease? k = (s.slot k).record) ∧
  ∀ (s : State) (h : Handle) (k : Fin 32) (l : Lease),
    s.resolve h = some (k, l) ↔ h ≠ 0xFF#8 ∧ h = s.handleAt k ∧ s.lease? k = some l

/-! ## Arithmetic of targets, codes and charges (R29 to R31, R71) -/

/-- Range and cell count of a target at admission, the base code to the nearest with halves upward, the lead cell's code, and the charge
rounded upward (R29, R30, R31). A cell's code at step k of a ramp is nearest to the straight line, halves upward, stays in the span of its two ends, and is
the end code at step 32 (R71). -/
def Obligations.CodesAndChargesFollowTheArithmetic : Prop :=
  (Range.low.fullScale = 5000 ∧ Range.mid.fullScale = 25000 ∧ Range.high.fullScale = 100000) ∧
  (∀ target, 50 ≤ target → target ≤ 600000 →
    (target ≤ 5000 → chooseRange target = .low ∧ admissionCells target = 1) ∧
    (5000 < target → target ≤ 25000 → chooseRange target = .mid ∧ admissionCells target = 1) ∧
    (25000 < target → target ≤ 100000 → chooseRange target = .high ∧ admissionCells target = 1) ∧
    (100000 < target → chooseRange target = .high ∧ admissionCells target ≤ 6 ∧
      target ≤ admissionCells target * 100000 ∧ (admissionCells target - 1) * 100000 < target)) ∧
  (∀ r target, 50 ≤ target →
    let n := cellCount r target
    let code := baseCodeOf r n target
    1 ≤ n ∧ target ≤ n * r.fullScale ∧ (2 ≤ n → (n - 1) * r.fullScale < target) ∧ 2 ≤ code ∧ code ≤ 4095 ∧
      (2 * code - 1) * (n * r.fullScale) ≤ 2 * (target * 4095) ∧
      2 * (target * 4095) < (2 * code + 1) * (n * r.fullScale)) ∧
  (∀ base trim, leadCode base trim ≤ 4095 ∧
    ((base : Int) + trim < 0 → leadCode base trim = 0) ∧ (4095 < (base : Int) + trim → leadCode base trim = 4095) ∧
    (0 ≤ (base : Int) + trim → (base : Int) + trim ≤ 4095 → (leadCode base trim : Int) = base + trim)) ∧
  (∀ target rail, target * rail ≤ chargeOf target rail * 1000000 ∧
    chargeOf target rail * 1000000 < target * rail + 1000000) ∧
  ∀ first last k : Nat, k ≤ 32 →
    let line : Int := 32 * first + ((last : Int) - first) * k
    (-16 : Int) ≤ line - 32 * rampCode first last k ∧ line - 32 * rampCode first last k < 16 ∧
    min first last ≤ rampCode first last k ∧ rampCode first last k ≤ max first last ∧
    rampCode first last 0 = first ∧ rampCode first last 32 = last

/-! ## OPEN and admission (spec chapter 3) -/

/-- Which parameters of an OPEN are good (R48, R50), and the record an accepted OPEN creates from them (R5). -/
def Obligations.OpenParametersAreCheckedAndRecorded : Prop :=
  (∀ p : OpenParams, (openRequest? p).isSome = true ↔
    p.terminal.toNat ≤ 15 ∧ 50 ≤ p.target.toNat ∧ p.target.toNat ≤ 600000 ∧
    1000 ≤ p.compliance.toNat ∧ p.compliance.toNat ≤ 27000 ∧ p.waitLimit.toNat ≤ 600 ∧ p.flags.getLsbD 7 = false ∧
    (p.flags.getLsbD 2 = true → 1 ≤ p.durationCount.toNat ∧ p.durationCount.toNat ≤ 4095) ∧
    (p.flags.getLsbD 4 = true → p.rampTime.toNat ≤ 2000) ∧
    (p.flags.getLsbD 5 = true → 10 ≤ p.tolerance.toNat ∧ p.tolerance.toNat ≤ 60000) ∧
    (p.flags.getLsbD 6 = true → 1 ≤ p.groupTag.toNat ∧ p.groupTag.toNat ≤ 15)) ∧
  ∀ (p : OpenParams) (q : OpenRequest) (x : Seat), openRequest? p = some q →
    let l := q.lease x
    let f := p.flags
    let unit : TimeUnit := if f.getLsbD 3 then .minutes else .seconds
    let seconds := if f.getLsbD 3 then p.durationCount.toNat * 60 else p.durationCount.toNat
    l.owner = x ∧ l.terminal.val = p.terminal.toNat ∧ l.target = p.target.toNat ∧ q.target = p.target.toNat ∧
    l.compliance = p.compliance.toNat ∧ q.compliance = p.compliance.toNat ∧ l.waitLimit = p.waitLimit.toNat ∧
    q.waitLimit = p.waitLimit.toNat ∧ l.state = .waiting p.waitLimit.toNat 0 ∧
    l.regulate = f.getLsbD 0 ∧ l.policy = (if f.getLsbD 1 then .close else .suspend) ∧
    l.duration = (if f.getLsbD 2 then some ⟨unit, p.durationCount.toNat, seconds⟩ else none) ∧
    l.rampTime = (if f.getLsbD 4 then some p.rampTime.toNat else none) ∧
    l.tolerance = (if f.getLsbD 5 then some p.tolerance.toNat else none) ∧
    l.tag = (if f.getLsbD 6 then some p.groupTag.toNat else none) ∧
    l.range = none ∧ l.alloc = none ∧ l.ramp = none ∧ l.rampCount = 0#8 ∧ l.lastMeasurement = none ∧
    l.railLost = false ∧ l.changed = false

/-- The checks of an OPEN after the seat checks, in order: parameters, lease quota, table, rail, cell quota, then a failed attempt with no wait
allowed or with the wait list full. The first that fails gives the response, and nothing else changes (R49 steps 3 to 7, 10 and 11). A seat's
record count is that of the slots whose record it owns, in every state (R1). -/
def Obligations.OpenIsRefusedInOrder : Prop :=
  (∀ (s : State) (x : Seat), s.recordCount x =
    ((List.finRange 32).countP fun k => (s.lease? k).any fun l => decide (l.owner = x))) ∧
  ∀ (x : Seat) (p : OpenParams) (s : State), Accepted (.openLease x p) s →
    let s1 := s.taken
    let refused (st : Status) (sub : Byte) :=
      exec (.openLease x p) s = .next (s1.respond (.openLease x p) x st [0xFF#8, sub])
    (openRequest? p = none → refused .badParam 0#8) ∧
    ∀ q, openRequest? p = some q →
      ((s1.seat x).leaseQuota ≤ s1.recordCount x → refused .quota 0#8) ∧
      (s1.recordCount x < (s1.seat x).leaseQuota →
        ((∀ k, s1.lease? k ≠ none) → refused .tableFull 0#8) ∧
        ∀ k, s1.lease? k = none →
          ((∀ b, (s1.bank b).state ≠ .disabled → (s1.bank b).rail < q.compliance + 1000) → refused .noResources 5#8) ∧
          ∀ b, (s1.bank b).state ≠ .disabled → q.compliance + 1000 ≤ (s1.bank b).rail →
            ((s1.seat x).cellQuota < admissionCells q.target → refused .quota 0#8) ∧
            (admissionCells q.target ≤ (s1.seat x).cellQuota → ∀ r, s1.attempt (q.lease x) = .error r →
              (q.waitLimit = 0 → refused .noResources r.code) ∧
              (0 < q.waitLimit → 8 ≤ s1.allocator.waitList.length → refused .waitFull r.code)))

/-- An OPEN that passes its checks is admitted when the attempt succeeds (OK), and else, with a wait limit and room in the list, its record is
created in WAITING at the end of the wait list (QUEUED, R59). Its slot is the lowest empty one (R4), and the answer carries its handle. -/
def Obligations.OpenAdmitsOrQueues : Prop :=
  ∀ (x : Seat) (p : OpenParams) (q : OpenRequest) (s : State) (k : Fin 32) (b : Fin 4),
    let s1 := s.taken
    let i := Instr.openLease x p
    let l := q.lease x
    Accepted i s → openRequest? p = some q → s1.recordCount x < (s1.seat x).leaseQuota →
    s1.lease? k = none → (∀ j, j < k → s1.lease? j ≠ none) →
    (s1.bank b).state ≠ .disabled → q.compliance + 1000 ≤ (s1.bank b).rail →
    admissionCells q.target ≤ (s1.seat x).cellQuota →
      (∀ c, s1.attempt l = .ok c → exec i s = .next ((s1.admitTo k l c).respond i x .ok [s1.handleAt k, 0#8])) ∧
      ∀ r, s1.attempt l = .error r → 0 < q.waitLimit → s1.allocator.waitList.length < 8 →
        exec i s = .next
          ({ s1.putLease k l with
              allocator := { s1.allocator with waitList := s1.allocator.waitList ++ [k] } }.respond i x .queued
            [s1.handleAt k, r.code])

/-- The admission attempt: a free terminal, room under the owner's cell quota, and an eligible bank; among eligible banks the best state class,
then the lowest number. The first failing condition is the sub-reason (R53 to R56), with the code 11.5 gives it. A seat's allotted cell count is
that of the ALLOTTED cells whose holder is a record of the seat, leaving cells included (R53). -/
def Obligations.AttemptNamesBankOrReason : Prop :=
  (∀ e ∈ [(SubReason.terminalTaken, 0x01#8), (.cellQuota, 0x02#8), (.noCells, 0x03#8), (.overBudget, 0x04#8),
    (.railTooLow, 0x05#8)], e.1.code = e.2) ∧
  (∀ (s : State) (x : Seat), s.allottedCount x = ((List.finRange 24).countP fun c =>
    match (s.cell c).state with
    | .allotted h => (s.resolve h).any fun kl => decide (kl.2.owner = x)
    | .free | .testing | .outOfService _ => false)) ∧
  (∀ t u, BankState.on.preference = some 0 ∧ (BankState.waking t).preference = some 1 ∧
    (BankState.linger t u).preference = some 2 ∧ BankState.off.preference = some 3 ∧
    BankState.disabled.preference = none ∧ (∀ w, (BankState.testing w).preference = none) ∧
    BankState.faulted.preference = none) ∧
  ∀ (s : State) (l : Lease),
    let n := admissionCells l.target
    let class? (b : Fin 4) := (s.bank b).state.preference
    let serves (b : Fin 4) := class? b ≠ none ∧ l.compliance + 1000 ≤ (s.bank b).rail ∧ n ≤ (s.freeIn b).length
    let fits (b : Fin 4) := serves b ∧ s.committed b + chargeOf l.target (s.bank b).rail ≤ (s.bank b).budget
    ((s.terminal l.terminal).holder ≠ none → s.attempt l = .error .terminalTaken) ∧
    ((s.terminal l.terminal).holder = none →
      ((s.seat l.owner).cellQuota < s.allottedCount l.owner + n → s.attempt l = .error .cellQuota) ∧
      (s.allottedCount l.owner + n ≤ (s.seat l.owner).cellQuota →
        ((∀ b, ¬serves b) → s.attempt l = .error .noCells) ∧
        (∀ b, serves b → (∀ c, ¬fits c) → s.attempt l = .error .overBudget) ∧
        ∀ b, s.attempt l = .ok b ↔ fits b ∧
          ∀ c, fits c → (class? b).getD 4 < (class? c).getD 4 ∨ ((class? b).getD 4 = (class? c).getD 4 ∧ b ≤ c)))

/-- The act of admission on the bank the attempt chose: its lowest FREE cells (R55), the charge, the terminal, the record with its STARTING phase, and
the bank with its new claim or driving lease; in OFF with rail-good high the wake completes at once (R37). The lease enters STARTING with its
allocation in the record; on a bank in ON its start ramp goes from the codes the cells carry to the target over the full ramp time, and with a
ramp time of 0 the cells are at their end codes (R69, R71, R73). What the OPEN gave the record stays, and so does every other slot, cell,
terminal and bank, every seat, and every notice but the bank-on notice (R57, R58). -/
def Obligations.AdmissionGivesCellsChargeAndTerminal : Prop :=
  ∀ (s : State) (k : Fin 32) (l : Lease) (b : Fin 4), s.attempt l = .ok b →
    let t := s.admitTo k l b
    let h := s.handleAt k
    let n := admissionCells l.target
    let r := chooseRange l.target
    let cs := (s.freeIn b).take n
    let e := s.bank b
    let base := baseCodeOf r n l.target
    let charge := chargeOf l.target e.rail
    let record : Lease := { l with
      range := some r
      alloc := some { bank := b, cells := cs.map fun c => ⟨c, false⟩, baseCode := base, trim := 0, charge := charge } }
    let given := (((s.allotCells h l.terminal r cs).setCommitted b (s.committed b + charge)).setTerminal l.terminal
      { s.terminal l.terminal with holder := some h }).putLease k record
    let time := l.rampTime.getD 0
    let rising (c : Fin 24) (stop : Nat) : RampCell := ⟨c, (s.drive c).code, stop⟩
    let ramped : List RampCell := match cs with
      | [] => []
      | lead :: rest => rising lead (leadCode base 0) :: rest.map fun c => rising c base
    t = given.enterStarting k ∧
    cs.length = n ∧
    (∀ c, c ∈ s.freeIn b ↔ c.val / 6 = b.val ∧ (s.cell c).state = .free) ∧ (s.freeIn b).Pairwise (· < ·) ∧
    (∀ c, t.cell c = if c ∈ cs then { s.cell c with state := .allotted h, route := some l.terminal } else s.cell c) ∧
    (∀ c, (t.drive c).range = if c ∈ cs then r else (s.drive c).range) ∧
    (e.state = .on → time = 0 → h ≠ 0xFF#8 → ∀ f ∈ ramped, (t.drive f.cell).code = f.stop) ∧
    (e.state ≠ .on ∨ time ≠ 0 → ∀ c, (t.drive c).code = (s.drive c).code) ∧
    (∀ c, c ∉ cs → (t.drive c).code = (s.drive c).code) ∧
    (∀ d, t.committed d = if d = b then s.committed b + charge else s.committed d) ∧
    (∀ m, t.terminal m = if m = l.terminal then { s.terminal m with holder := some h } else s.terminal m) ∧
    (∀ j, j ≠ k → t.slot j = s.slot j) ∧ (t.slot k).gen = (s.slot k).gen ∧
    (∃ m, t.lease? k = some m ∧
      m.alloc = record.alloc ∧ m.range = some r ∧ m.owner = l.owner ∧ m.terminal = l.terminal ∧ m.target = l.target ∧
      m.compliance = l.compliance ∧ m.rampTime = l.rampTime ∧ m.tolerance = l.tolerance ∧ m.regulate = l.regulate ∧
      m.policy = l.policy ∧ m.waitLimit = l.waitLimit ∧ m.tag = l.tag ∧ m.duration = l.duration ∧
      m.lastMeasurement = l.lastMeasurement ∧ m.railLost = l.railLost ∧ m.changed = l.changed ∧
      (e.state = .on → m.state = .starting .ramp ∧ m.rampCount = l.rampCount + 1 ∧
        m.ramp = some ⟨given.presentLevel record, l.target, time, if time = 0 then 32 else 0, 0, ramped⟩ ∧
        ((∀ c ∈ cs, (s.drive c).code = 0) → given.presentLevel record = 0)) ∧
      (e.state ≠ .on → m.state = .starting .wake ∧ m.ramp = l.ramp ∧ m.rampCount = l.rampCount)) ∧
    (∀ d, d ≠ b → t.bank d = s.bank d) ∧
    (e.state = .on → t.bank b = { e with driving := e.driving + 1 } ∧ t.engine.bankOnNotices = s.engine.bankOnNotices) ∧
    (∀ w, e.state = .waking w → t.bank b = { e with claims := e.claims + 1 } ∧
      t.engine.bankOnNotices = s.engine.bankOnNotices) ∧
    (∀ m u, e.state = .linger m u → t.bank b = { e with claims := e.claims + 1, state := .on } ∧
      t.engine.bankOnNotices = s.engine.bankOnNotices ++ [b]) ∧
    (e.state = .off → e.railGood = false → t.bank b = { e with claims := e.claims + 1, state := .waking 1600 } ∧
      t.engine.bankOnNotices = s.engine.bankOnNotices) ∧
    (e.state = .off → e.railGood = true → t.bank b = { e with claims := e.claims + 1, state := .on } ∧
      t.engine.bankOnNotices = s.engine.bankOnNotices ++ [b]) ∧
    t.engine.lapseNotices = s.engine.lapseNotices ∧ t.engine.results = s.engine.results ∧
    t.allocator.waitExpiryNotices = s.allocator.waitExpiryNotices ∧ t.allocator.waitList = s.allocator.waitList ∧
    t.seatCtl = s.seatCtl ∧ t.meas = s.meas ∧ t.pool = s.pool ∧ t.selfTest = s.selfTest ∧ t.port = s.port ∧
    t.straps = s.straps ∧ t.pending = s.pending

/-- A rescan is taken in RUN only. It tries the waiting leases oldest first, each against what the earlier ones left; one that fits is admitted,
leaves the list and has ADMITTED posted, one that does not is passed over (R62, R63). -/
def Obligations.RescanTriesWaitingLeasesInOrder : Prop :=
  (∀ s : State, s.held = true → s.rescan = s) ∧
  (∀ s : State, s.held = false → s.rescan = s.allocator.waitList.foldl (fun s k => s.tryWaiting k) s) ∧
  (∀ (s : State) (k : Fin 32) (l : Lease) (n u : Nat), s.lease? k = some l → l.state = .waiting n u →
    (∀ r, s.attempt l = .error r → s.tryWaiting k = s) ∧
    ∀ b, s.attempt l = .ok b →
      let t := s.admitTo k l b
      s.tryWaiting k = { t with
        allocator := { t.allocator with waitList := t.allocator.waitList.filter (· ≠ k) } }.postLease k .admitted) ∧
  (∀ (s : State) (k : Fin 32), (∀ l, s.lease? k = some l → ∀ n u, l.state ≠ .waiting n u) → s.tryWaiting k = s) ∧
  ∀ (s : State) (k : Fin 32) (l : Lease) (v : Event), s.lease? k = some l →
    s.postLease k v =
      let t := s.putLease k { l with changed := true }
      if (s.seat l.owner).enabled then
        t.setSeat l.owner { s.seat l.owner with latched := (s.seat l.owner).latched ||| v.mark }
      else t

/-! ## Starting, ramps and stops (R69 to R82) -/

/-- A lease enters STARTING by its bank's state: in ON it ramps and counts as driving; else it claims the wake, which takes OFF to WAKING with
50 ms on its timer, or on to ON in the same act when rail-good is already high, and LINGER to ON, both with a bank-on notice (R35, R36, R37,
R39, R69). -/
def Obligations.StartingFollowsTheBank : Prop :=
  ∀ (s : State) (k : Fin 32) (l : Lease) (a : Allocation), s.lease? k = some l → l.alloc = some a →
    let e := s.bank a.bank
    let ramping := s.putLease k { l with state := .starting .ramp }
    let waking := s.putLease k { l with state := .starting .wake }
    (e.state = .on → s.enterStarting k =
      (ramping.setBank a.bank { e with driving := e.driving + 1 }).startRamp k l.target Allocation.targetCodes) ∧
    (e.state = .off → e.railGood = false → s.enterStarting k =
      waking.setBank a.bank { e with claims := e.claims + 1, state := .waking (50 * 32) }) ∧
    (∀ w, e.state = .waking w → s.enterStarting k = waking.setBank a.bank { e with claims := e.claims + 1 }) ∧
    ((e.state = .off ∧ e.railGood = true) ∨ (∃ m u, e.state = .linger m u) →
      let t := waking.setBank a.bank { e with claims := e.claims + 1, state := .on }
      s.enterStarting k = { t with engine := { t.engine with bankOnNotices := t.engine.bankOnNotices ++ [a.bank] } })

/-- A ramp starts from the codes the cells carry and replaces any ramp in flight; the ramp count rises by one. A ramp time of 0 or none puts every
cell at its end code at once. End codes are base code, with trim on the lead cell, and 0 on leaving cells or in a rampdown (R71 to R73, R80).
The present level is the current of the codes the cells carry, to the nearest µA with halves upward (R71). Before the next command sees the
device, the completions of zero-time ramps are taken, lowest slot first, until none is in flight (R73; logs 3 and 18). -/
def Obligations.RampStartReplacesRamp : Prop :=
  (∀ (s : State) (k : Fin 32) (l : Lease) (a : Allocation) (toLevel : Nat) (ends : Allocation → List (Fin 24 × Nat)),
    s.lease? k = some l → l.alloc = some a →
      let cells : List RampCell := (ends a).map fun e => ⟨e.1, (s.drive e.1).code, e.2⟩
      let time := l.rampTime.getD 0
      let started (step : Nat) := s.putLease k { l with
        ramp := some ⟨s.presentLevel l, toLevel, time, step, 0, cells⟩, rampCount := l.rampCount + 1 }
      (time ≠ 0 → s.startRamp k toLevel ends = started 0) ∧
      (time = 0 → s.startRamp k toLevel ends = (started 32).writeRamp cells 32)) ∧
  (∀ (s : State) (k : Fin 32) (l : Lease) (dest : Destination), s.lease? k = some l →
    s.enterRampdown k dest = (s.putLease k { l with state := .rampdown dest }).startRamp k 0 Allocation.zeroTargets) ∧
  (∀ (s : State) (k : Fin 32) (l : Lease), s.lease? k = some l →
    s.startTargetRamp k = s.startRamp k l.target Allocation.targetCodes) ∧
  (∀ (s : State) (l : Lease),
    (l.alloc = none → s.presentLevel l = 0) ∧
    ∀ a r, l.alloc = some a → l.range = some r →
      let fullScale := match r with | .low => 5000 | .mid => 25000 | .high => 100000
      let codes := (a.cells.map fun e => (s.drive e.cell).code).sum
      let level := s.presentLevel l
      2 * 4095 * level ≤ 2 * (codes * fullScale) + 4095 ∧ 2 * (codes * fullScale) + 4095 < 2 * 4095 * (level + 1)) ∧
  (∀ s : State,
    let zero (k : Fin 32) := ∃ l r, s.lease? k = some l ∧ l.ramp = some r ∧ r.time = 0
    ((∀ k, ¬zero k) → s.settle = s) ∧
    (∀ k, zero k → (∀ j, j < k → ¬zero j) → ∃ t, exec (.rampComplete k) s = .next t ∧ s.settle = t.settle) ∧
    ∀ k l r, s.settle.lease? k = some l → l.ramp = some r → r.time ≠ 0) ∧
  ∀ (a : Allocation) (lead : Fin 24) (rest : List ListedCell),
    a.zeroTargets = a.cells.map (fun e => (e.cell, 0)) ∧
    (a.cells = ⟨lead, false⟩ :: rest → a.targetCodes =
      (lead, leadCode a.baseCode a.trim) :: rest.map (fun e => (e.cell, if e.leaving then 0 else a.baseCode)))

/-- At each of its 32 steps a ramp writes every cell's code for the step; a cell that may not drive gets code 0 (R28, R71). Other cells keep
their code. RAMP_STEP is taken as told, whatever time has run (log 5); where no ramp has a step left, it has no effect (log 2: the model's
choices). A ramp's completion writes the end codes, removes the ramp, frees leaving cells, and moves the lease on: a start ramp into
VERIFYING with its handle joining the verify queue, an adjust ramp with the lease in ACTIVE, a rampdown into its destination with its event.
One rescan follows if anything was given back (R74, R75, R81, R82). RAMP_COMPLETE with no record or no ramp has no effect (log 2), and
before the last step it stands for the steps left too (log 6). A handle joins the verify queue at its end, an older generation of its slot
being removed first; one that is there keeps its place (R97). -/
def Obligations.RampCompletionMovesLeaseOn : Prop :=
  (∀ (s : State) (cells : List RampCell) (step : Nat),
    let t := s.writeRamp cells step
    t = { s with cellArray := t.cellArray } ∧ (∀ c, (t.drive c).range = (s.drive c).range) ∧
    (∀ e ∈ cells, (∀ f ∈ cells, f.cell = e.cell → f = e) →
      (t.drive e.cell).code = if s.mayDrive e.cell then rampCode e.start e.stop step else 0) ∧
    ∀ c, c ∉ cells.map (·.cell) → t.drive c = s.drive c) ∧
  (∀ (s : State) (cs : List (Fin 24)),
    let t := s.freeCells cs
    t = { s with allocator := { s.allocator with cells := t.allocator.cells }, cellArray := t.cellArray } ∧
    ∀ c, t.cell c = (if c ∈ cs then { s.cell c with state := .free, route := none } else s.cell c) ∧
      t.drive c = if c ∈ cs then { s.drive c with code := 0 } else s.drive c) ∧
  (∀ (s : State) (k : Fin 32),
    (∀ (l : Lease) (r : Ramp), s.lease? k = some l → l.ramp = some r → r.step < 32 →
      ∃ t, exec (.rampStep k) s = .next t ∧
        t = ((s.putLease k { l with ramp := some { r with step := r.step + 1, elapsed := (r.step + 1) * r.time } }).writeRamp
          r.cells (r.step + 1)).driveOutputs ∧
        (∀ e ∈ r.cells, (∀ f ∈ r.cells, f.cell = e.cell → f = e) →
          (t.drive e.cell).code = if s.mayDrive e.cell then rampCode e.start e.stop (r.step + 1) else 0) ∧
        (∀ c, c ∉ r.cells.map (·.cell) → t.drive c = s.drive c) ∧ (∀ c, (t.drive c).range = (s.drive c).range)) ∧
    ((∀ l r, s.lease? k = some l → l.ramp = some r → 32 ≤ r.step) → exec (.rampStep k) s = .next s.driveOutputs)) ∧
  (∀ (s : State) (k : Fin 32),
    (∀ (l : Lease) (r : Ramp) (a : Allocation), s.lease? k = some l → l.ramp = some r → l.alloc = some a →
      let drained := (s.writeRamp r.cells 32).freeCells a.leavingCells
      let ended (st : LeaseState) := drained.putLease k { l with ramp := none, alloc := some a.withoutLeaving, state := st }
      let freed := decide (a.leavingCells ≠ [])
      (l.state = .starting .ramp → exec (.rampComplete k) s =
        .next ((((ended .verifying).joinVerify (s.handleAt k)).reconsider).rescanIf freed).driveOutputs) ∧
      (∀ st u, l.state = .active st u → exec (.rampComplete k) s =
        .next ((ended l.state).reconsider.rescanIf freed).driveOutputs) ∧
      (∀ why, l.state = .rampdown (.suspended why) → exec (.rampComplete k) s =
        .next ((((ended l.state).suspendHolding k why).postLease k .suspended).rescanIf freed).driveOutputs) ∧
      (∀ why, l.state = .rampdown (.closed why) → exec (.rampComplete k) s =
        .next (((ended l.state).closeHolding k why).postLease k .closed).rescan.driveOutputs)) ∧
    (s.lease? k = none → exec (.rampComplete k) s = .next s.driveOutputs) ∧
    (∀ l, s.lease? k = some l → l.ramp = none → exec (.rampComplete k) s = .next s.driveOutputs)) ∧
  ∀ (s : State) (h : Handle),
    let q := s.meas.verifyQueue
    (h ∈ q → s.joinVerify h = s) ∧
    (h ∉ q → s.joinVerify h = { s with meas := { s.meas with
      verifyQueue := q.filter (fun g => decide (g.toNat % 32 ≠ h.toNat % 32)) ++ [h] } })

/-- A lease that stops at once: its ramp is gone and its codes are 0. In SUSPENDED it keeps cells, routes, charge and terminal, leaving cells
excepted; in CLOSED all of them are given back and the allocation fields are removed, the range excepted. The bank's count of its class
falls, and a bank in ON with no demand left leaves ON. Nothing else changes (R16, R24, R32, R35, R38, R45, R78, R81, R82). -/
def Obligations.StopAtOnceGivesBack : Prop :=
  (∀ a : Allocation, a.cellNumbers = a.cells.map (·.cell) ∧
    a.leavingCells = (a.cells.filter fun e => e.leaving).map (·.cell) ∧
    a.withoutLeaving = { a with cells := a.cells.filter fun e => !e.leaving }) ∧
  ∀ (s : State) (k : Fin 32) (l : Lease) (a : Allocation), s.lease? k = some l → l.alloc = some a →
    let e := s.bank a.bank
    let freed (c : Fin 24) : CellEntry := { s.cell c with state := .free, route := none }
    let counted : Bank := match l.state with
      | .starting .wake => { e with claims := e.claims - 1 }
      | .starting .ramp | .verifying | .active _ _ | .rampdown _ => { e with driving := e.driving - 1 }
      | .waiting _ _ | .suspended _ | .closed _ => e
    let rest : BankState := if e.lingerTime = 0 then .off else .linger e.lingerTime 0
    let after : Bank :=
      if l.state.driving = true ∨ l.state = .starting .wake then
        if counted.driving + counted.claims = 0 ∧ e.state = .on then { counted with state := rest } else counted
      else e
    let common (t : State) := (∀ j, j ≠ k → t.slot j = s.slot j) ∧ (t.slot k).gen = (s.slot k).gen ∧
      (∀ c, (t.drive c) = if c ∈ a.cellNumbers then { s.drive c with code := 0 } else s.drive c) ∧
      (∀ d, t.bank d = if d = a.bank then after else s.bank d) ∧
      t.engine.bankOnNotices = s.engine.bankOnNotices ∧ t.engine.lapseNotices = s.engine.lapseNotices ∧
      t.engine.results = s.engine.results ∧ t.allocator.waitExpiryNotices = s.allocator.waitExpiryNotices ∧
      t.allocator.waitList = s.allocator.waitList ∧ t.seatCtl = s.seatCtl ∧ t.meas = s.meas ∧ t.pool = s.pool ∧
      t.selfTest = s.selfTest ∧ t.port = s.port ∧ t.straps = s.straps ∧ t.pending = s.pending
    (∀ why, let t := s.suspendHolding k why
      common t ∧
      t.lease? k = some { l with state := .suspended why, ramp := none, alloc := some a.withoutLeaving } ∧
      (∀ c, t.cell c = if c ∈ a.leavingCells then freed c else s.cell c) ∧ (∀ d, t.committed d = s.committed d) ∧
      ∀ m, t.terminal m = s.terminal m) ∧
    ∀ why, let t := s.closeHolding k why
      common t ∧ t.lease? k = some { l with state := .closed why, ramp := none, alloc := none } ∧
      (∀ c, t.cell c = if c ∈ a.cellNumbers then freed c else s.cell c) ∧
      (∀ d, t.committed d = if d = a.bank then s.committed d - a.charge else s.committed d) ∧
      ∀ m, t.terminal m =
        if m = l.terminal then { s.terminal m with holder := none, idle := (s.terminal m).requested } else s.terminal m

/-! ## Requests on a lease (R6, R18 to R22, R66 to R68, R83 to R93) -/

/-- SUSPEND by state: STARTING–WAKE stops at once, a ramping, verifying or active lease ramps down, a lease already suspended or on its way there
is answered OK unchanged, every other is refused. SUSPENDED is posted at once only to an owner who did not ask (R83, R86). -/
def Obligations.SuspendActsByState : Prop :=
  ∀ (x : Seat) (h : Handle) (s : State) (k : Fin 32) (l : Lease), Subject (.suspend x h) x h s k l →
    let s1 := s.taken
    let i := Instr.suspend x h
    let stopped := s1.suspendHolding k .requested
    let told := if x = l.owner then stopped else stopped.postLease k .suspended
    (∀ a, l.alloc = some a → l.state = .starting .wake →
      exec i s = .next ((told.rescanIf (decide (a.leavingCells ≠ []))).respond i x .ok [])) ∧
    (l.state = .starting .ramp ∨ l.state = .verifying ∨ (∃ m u, l.state = .active m u) →
      exec i s = .next ((s1.enterRampdown k (.suspended .requested)).respond i x .ok [])) ∧
    ((∃ why, l.state = .rampdown (.suspended why) ∨ l.state = .suspended why) →
      exec i s = .next (s1.respond i x .ok [])) ∧
    ((∃ n u, l.state = .waiting n u) ∨ (∃ why, l.state = .rampdown (.closed why) ∨ l.state = .closed why) →
      exec i s = .next (s1.respond i x .wrongState []))

/-- RESUME by state, with its checks in order: state, a LAPSED owner, a FAULTED bank. A SUSPENDED lease enters STARTING by its bank's state; one in
RAMPDOWN(SUSPENDED) ramps up again from where it is (R69, R84). -/
def Obligations.ResumeActsByState : Prop :=
  ∀ (x : Seat) (h : Handle) (s : State) (k : Fin 32) (l : Lease), Subject (.resume x h) x h s k l →
    let s1 := s.taken
    let i := Instr.resume x h
    let ownerLapsed := (s1.seat l.owner).keepalive = .lapsed
    ((∃ n u, l.state = .waiting n u) ∨ (∃ p, l.state = .starting p) ∨ l.state = .verifying ∨ (∃ m u, l.state = .active m u) ∨
      (∃ why, l.state = .rampdown (.closed why) ∨ l.state = .closed why) →
      exec i s = .next (s1.respond i x .wrongState [])) ∧
    ((∃ why, l.state = .rampdown (.suspended why) ∨ l.state = .suspended why) → ownerLapsed →
      exec i s = .next (s1.respond i x .lapsed [])) ∧
    (∀ why, l.state = .rampdown (.suspended why) → ¬ownerLapsed →
      exec i s = .next
        (((s1.putLease k { l with state := .starting .ramp }).startRamp k l.target Allocation.targetCodes).respond i x .ok [])) ∧
    ∀ why a, l.state = .suspended why → l.alloc = some a → ¬ownerLapsed →
      ((s1.bank a.bank).state = .faulted → exec i s = .next (s1.respond i x .bankUnavailable [])) ∧
      ((s1.bank a.bank).state ≠ .faulted → exec i s = .next ((s1.enterStarting k).respond i x .ok []))

/-- CANCEL by state: WAITING leaves the list and closes, STARTING–WAKE and SUSPENDED close at once, a driving lease ramps down, a rampdown toward
SUSPENDED is redirected, one toward CLOSED is kept. CLOSED is posted at once only to an owner who did not ask (R66, R85, R86).
PURGE closes a lease in any state but CLOSED at once with end reason PURGED: a waiting one leaves the list, a holding one gives everything
back and one rescan follows. CLOSED is posted unless the owner is S (R86, R93). -/
def Obligations.CancelAndPurgeEndTheLease : Prop :=
  (∀ (x : Seat) (h : Handle) (s : State) (k : Fin 32) (l : Lease), Subject (.cancel x h) x h s k l →
      let s1 := s.taken
      let i := Instr.cancel x h
      let told (t : State) := if x = l.owner then t else t.postLease k .closed
      let left := s1.putLease k { l with state := .closed .cancelled }
      (∀ n u, l.state = .waiting n u → exec i s = .next ((told
        { left with allocator := { s1.allocator with waitList := s1.allocator.waitList.filter (· != k) } }).respond i x .ok [])) ∧
      (l.state = .starting .wake ∨ (∃ why, l.state = .suspended why) →
        exec i s = .next ((told (s1.closeHolding k .cancelled)).rescan.respond i x .ok [])) ∧
      (l.state = .starting .ramp ∨ l.state = .verifying ∨ (∃ m u, l.state = .active m u) →
        exec i s = .next ((s1.enterRampdown k (.closed .cancelled)).respond i x .ok [])) ∧
      (∀ why, l.state = .rampdown (.suspended why) →
        exec i s = .next ((s1.putLease k { l with state := .rampdown (.closed .cancelled) }).respond i x .ok [])) ∧
      (∀ why, l.state = .rampdown (.closed why) → exec i s = .next (s1.respond i x .ok [])) ∧
      ∀ why, l.state = .closed why → exec i s = .next (s1.respond i x .wrongState [])) ∧
  ∀ (x : Seat) (h : Handle) (s : State) (k : Fin 32) (l : Lease), Subject (.purge x h) x h s k l →
    let s1 := s.taken
    let i := Instr.purge x h
    let told (t : State) := if l.owner = .s then t else t.postLease k .closed
    let left := s1.putLease k { l with state := .closed .purged }
    x = .s ∧
    (∀ n u, l.state = .waiting n u → exec i s = .next ((told
      { left with allocator := { s1.allocator with waitList := s1.allocator.waitList.filter (· != k) } }).respond i x .ok [])) ∧
    ((∃ ph, l.state = .starting ph) ∨ l.state = .verifying ∨ (∃ m u, l.state = .active m u) ∨ (∃ d, l.state = .rampdown d) ∨
      (∃ why, l.state = .suspended why) → exec i s = .next ((told (s1.closeHolding k .purged)).rescan.respond i x .ok [])) ∧
    ∀ why, l.state = .closed why → exec i s = .next (s1.respond i x .wrongState [])

/-- RELEASE of a CLOSED record empties its slot and advances its generation; the owner's record count falls by one, and nothing else changes but
the response. In any other state it is refused WRONG_STATE. It is taken in HOLD: a tenant that is not LAPSED passes its seat checks there. -/
def Obligations.ReleaseEmptiesClosedSlot : Prop :=
  (∀ (x : Seat) (h : Handle) (s : State) (k : Fin 32) (l : Lease), Subject (.release x h) x h s k l →
    let s1 := s.taken
    let i := Instr.release x h
    let g := (s1.slot k).gen
    let g' : Fin 8 := if k = 31 ∧ g = 6 then 0 else if g = 7 then 0 else g + 1
    (∀ why, l.state = .closed why →
      exec i s = .next ((s1.setSlot k ⟨g', none⟩).respond i x .ok []) ∧
      (s1.setSlot k ⟨g', none⟩).recordCount l.owner + 1 = s1.recordCount l.owner) ∧
    ((∀ why, l.state ≠ .closed why) → exec i s = .next (s1.respond i x .wrongState []))) ∧
  ∀ (x : Seat) (h : Handle) (s : State), s.mayDispatch x (frameOf (.release x h)) = true → s.taken.held = true →
    (s.taken.seat x).enabled = true → (s.taken.seat x).keepalive ≠ .lapsed → Accepted (.release x h) s

/-- QUERY answers the 46 bytes of the record as it stands and clears its changed flag when the owner reads; nothing else changes. Every byte is
the one 11.5 gives it, a field cut to its width and a field that is not held 0 (R18, R19, R173; the cell list bytes with no allocation are
0 by log 27, the bits that 11.5 does not name 0 by log 31). -/
def Obligations.QueryReturnsRecord : Prop :=
  (∀ (x : Seat) (h : Handle) (s : State) (k : Fin 32) (l : Lease), Subject (.query x h) x h s k l →
    exec (.query x h) s = .next
      ((if x = l.owner then s.taken.putLease k { l with changed := false } else s.taken).respond (.query x h) x .ok
        (l.record h))) ∧
  ∀ (l : Lease) (h : Handle),
    let r := l.record h
    let b (j : Nat) := (r.getD j 0#8).toNat
    let word (j : Nat) := b j + 256 * b (j + 1)
    let long (j : Nat) := b j + 256 * b (j + 1) + 65536 * b (j + 2)
    let marked (j i : Nat) := b j / 2 ^ i % 2 = 1
    let fault (k : FaultKind) := match k with | .compliance => 8 | .openLoad => 9 | .trimLimit => 10 | .railLost => 11
    let suspended (why : SuspendReason) := match why with | .requested => 1 | .lapsed => 2 | .fault k => fault k
    let closed (why : EndReason) :=
      match why with | .lapsed => 2 | .expired => 3 | .cancelled => 4 | .purged => 5 | .waitExpired => 6 | .fault k => fault k
    let reason := match l.state with
      | .rampdown (.suspended why) | .suspended why => suspended why
      | .rampdown (.closed why) | .closed why => closed why
      | .waiting _ _ | .starting _ | .verifying | .active _ _ => 0
    [Seat.s, .a, .b, .c, .d].map (fun x => x.idx.val) = [0, 1, 2, 3, 4] ∧
    r.length = 46 ∧ r.getD 0 0#8 = h ∧ b 1 = l.terminal.val + 16 * l.owner.idx.val ∧
    b 2 = (match l.state with
      | .waiting _ _ => 0 | .starting .wake => 1 | .starting .ramp => 1 + 16 | .verifying => 2 | .active _ _ => 3
      | .rampdown (.suspended _) => 4 | .rampdown (.closed _) => 4 + 16 | .suspended _ => 5 | .closed _ => 6) ∧
    ((marked 3 0 ↔ l.range ≠ none) ∧ (marked 3 1 ↔ l.alloc ≠ none) ∧ (marked 3 2 ↔ l.duration ≠ none) ∧
      (marked 3 3 ↔ ∃ n u, l.state = .waiting n u) ∧ (marked 3 4 ↔ l.ramp ≠ none) ∧
      (marked 3 5 ↔ ∃ st u, l.state = .active st u) ∧ (marked 3 6 ↔ l.lastMeasurement ≠ none) ∧
      (marked 3 7 ↔ l.tolerance ≠ none)) ∧
    ((marked 4 0 ↔ l.regulate = true) ∧ (marked 4 1 ↔ l.policy = .close) ∧
      (marked 4 2 ↔ ∃ d, l.duration = some d ∧ d.unit = .minutes) ∧ (marked 4 3 ↔ l.rampTime ≠ none) ∧
      (marked 4 4 ↔ ∃ u, l.state = .active true u) ∧ (marked 4 5 ↔ l.railLost = true) ∧ (marked 4 6 ↔ l.changed = true) ∧
      ¬marked 4 7) ∧
    long 5 = l.target % 2 ^ 24 ∧ word 8 = l.compliance % 2 ^ 16 ∧ word 10 = l.rampTime.getD 0 % 2 ^ 16 ∧
    word 12 = l.tolerance.getD 0 % 2 ^ 16 ∧ word 14 = l.waitLimit % 2 ^ 16 ∧ b 16 = (l.tag.getD 0 + 16 * reason) % 256 ∧
    b 17 % 16 = (match l.range with | some .low => 0 | some .mid => 1 | some .high => 2 | none => 0) ∧
    (l.alloc = none → b 17 / 16 = 0 ∧ (∀ j < 6, b (18 + j) = 0) ∧ word 24 = 0 ∧ b 26 = 0 ∧ word 27 = 0) ∧
    (∀ a, l.alloc = some a → b 17 / 16 = a.bank.val ∧
      (∀ j < 6, b (18 + j) = match a.cells[j]? with
        | some e => e.cell.val + (if e.leaving then 128 else 0)
        | none => 255) ∧
      word 24 = a.baseCode % 2 ^ 16 ∧ r.getD 26 0#8 = BitVec.ofInt 8 a.trim ∧ word 27 = a.charge % 2 ^ 16) ∧
    (l.duration = none → word 29 = 0 ∧ word 31 = 0) ∧
    (∀ d, l.duration = some d → word 29 = d.count % 2 ^ 16 ∧
      word 31 = (if d.unit = .minutes then (d.remaining + 59) / 60 else d.remaining) % 2 ^ 16) ∧
    word 33 = (match l.state with | .waiting n _ => n % 2 ^ 16 | _ => 0) ∧
    (l.ramp = none → long 35 = 0 ∧ word 38 = 0) ∧
    (∀ m, l.ramp = some m → long 35 = m.fromLevel % 2 ^ 24 ∧ word 38 = ((m.time * 32 - m.elapsed + 31) / 32) % 2 ^ 16) ∧
    r.getD 40 0#8 = l.rampCount ∧
    (l.lastMeasurement = none → long 41 = 0 ∧ word 44 = 0) ∧
    ∀ m, l.lastMeasurement = some m → long 41 = m.current % 2 ^ 24 ∧ word 44 = m.voltage % 2 ^ 16

/-- LIST FIRST stores the filter and starts at slot 0, LIST NEXT goes on from the cursor. The first record at or above it that qualifies is
answered as QUERY would and the cursor moves past it; with none the answer is END_OF_LIST and the cursor stands at 32 (R20 to R22). -/
def Obligations.ListWalkReturnsNextQualifyingRecord : Prop :=
  ∀ (x : Seat) (s : State) (i : Instr) (s2 : State), Accepted i s →
    let s1 := s.taken
    let first (f : Filter) := s1.setSeat x { s1.seat x with cursor := 0, cursorFilter := f }
    ((i = .listNext x ∧ s2 = s1) ∨ (i = .listFirst x none ∧ s2 = first .all) ∨ (i = .listFirst x (some 0#8) ∧ s2 = first .all) ∨
      (i = .listFirst x (some 1#8) ∧ s2 = first .changedOnly) →
      let e := s2.seat x
      let qualifies (j : Fin 32) :=
        ∃ l, s1.lease? j = some l ∧ (x = .s ∨ l.owner = x) ∧ (e.cursorFilter = .all ∨ l.changed = true)
      (∀ k l, s1.lease? k = some l → qualifies k → e.cursor ≤ k.val → (∀ j, qualifies j → e.cursor ≤ j.val → k ≤ j) →
        let moved := s2.setSeat x { e with cursor := k.val + 1 }
        exec i s = .next ((if x = l.owner then moved.putLease k { l with changed := false } else moved).respond i x .ok
          (l.record (s1.handleAt k)))) ∧
      ((∀ j, qualifies j → j.val < e.cursor) →
        exec i s = .next ((s2.setSeat x { e with cursor := 32 }).respond i x .endOfList []))) ∧
    ∀ b, b ≠ 0#8 → b ≠ 1#8 → i = .listFirst x (some b) → exec i s = .next (s1.respond i x .badParam [])

/-- GROUP visits the slots in order and applies its action to every record of the named seat with the named tag as if the sending seat had sent it
alone, each with its own rescan, and with the due completions of zero-time ramps taken before the slot is examined (R73, log 3); it answers the
counts of those answered OK and of those refused (R92). -/
def Obligations.GroupActsOnTaggedRecords : Prop :=
  (∀ (x : Seat) (tag action seat : Byte) (s : State), Accepted (.group x tag action seat) s →
    let s1 := s.taken
    let i := Instr.group x tag action seat
    (¬(1 ≤ tag.toNat ∧ tag.toNat ≤ 15 ∧ action.toNat ≤ 2 ∧ seat.toNat ≤ 4) → exec i s = .next (s1.respond i x .badParam [])) ∧
    ∀ (a : GroupAction) (owner : Seat), 1 ≤ tag.toNat → tag.toNat ≤ 15 →
      action.toNat = (match a with | .suspend => 0 | .resume => 1 | .cancel => 2) → seat.toNat = owner.idx.val →
      (x ≠ .s → owner ≠ x → exec i s = .next (s1.respond i x .notPermitted [])) ∧
      (x = .s ∨ owner = x →
        let g := (List.finRange 32).foldl (GroupRun.visit x tag.toNat a owner) ⟨s1, 0, 0⟩
        exec i s = .next (g.state.respond i x .ok [BitVec.ofNat 8 g.acted, BitVec.ofNat 8 g.refused]))) ∧
  (∀ (x : Seat) (tag : Nat) (a : GroupAction) (owner : Seat) (g : GroupRun) (k : Fin 32),
    let s := g.state.settle
    ((∀ l, s.lease? k = some l → ¬(l.owner = owner ∧ l.tag = some tag)) →
      GroupRun.visit x tag a owner g k = ⟨s, g.acted, g.refused⟩) ∧
    ∀ l, s.lease? k = some l → l.owner = owner → l.tag = some tag →
      let r := a.apply x k l s
      GroupRun.visit x tag a owner g k =
        if r.status = .ok then ⟨r.state, g.acted + 1, g.refused⟩ else ⟨s, g.acted, g.refused + 1⟩) ∧
  ∀ (x : Seat) (h : Handle) (s : State) (k : Fin 32) (l : Lease) (i : Instr) (a : GroupAction),
    (i, a) ∈ [(Instr.suspend x h, GroupAction.suspend), (.resume x h, .resume), (.cancel x h, .cancel)] →
    Subject i x h s k l →
      let r := a.apply x k l s.taken
      exec i s = .next (r.state.respond i x r.status r.payload)

/-- ADJUST of a waiting lease: form, cell quota, then the extension, which an indefinite lease or a count above 4095 refuses. An accepted one changes
target, count and remaining, and nothing else (R67, R68). That presence bits 2 to 7 refuse it is the model's reading of R172 (log 33). -/
def Obligations.AdjustOfWaitingLease : Prop :=
  (∀ p : AdjustParams,
    (adjustRequest? p = none ↔ p.presence.toNat = 0 ∨ 4 ≤ p.presence.toNat ∨
      (p.presence.getLsbD 0 = true ∧ (p.target.toNat < 50 ∨ 600000 < p.target.toNat)) ∨
      (p.presence.getLsbD 1 = true ∧ (p.extension.toNat < 1 ∨ 4095 < p.extension.toNat))) ∧
    ∀ q, adjustRequest? p = some q →
      q.target = (if p.presence.getLsbD 0 then some p.target.toNat else none) ∧
      q.extension = (if p.presence.getLsbD 1 then some p.extension.toNat else none)) ∧
  ∀ (x : Seat) (p : AdjustParams) (s : State) (k : Fin 32) (l : Lease) (n u : Nat),
    Subject (.adjust x p) x p.handle s k l → l.state = .waiting n u →
    let s1 := s.taken
    let i := Instr.adjust x p
    (adjustRequest? p = none → exec i s = .next (s1.respond i x .badParam [])) ∧
    ∀ q, adjustRequest? p = some q →
      let target := q.target.getD l.target
      (q.target ≠ none → (s1.seat l.owner).cellQuota < admissionCells target → exec i s = .next (s1.respond i x .quota [])) ∧
      (q.target = none ∨ admissionCells target ≤ (s1.seat l.owner).cellQuota →
        (q.extension = none → exec i s = .next ((s1.putLease k { l with target := target }).respond i x .ok [])) ∧
        ∀ m, q.extension = some m →
          (l.duration = none → exec i s = .next (s1.respond i x .badParam [])) ∧
          ∀ d, l.duration = some d →
            (4095 < d.count + m → exec i s = .next (s1.respond i x .badParam [])) ∧
            (d.count + m ≤ 4095 → exec i s = .next ((s1.putLease k { l with
              target := target
              duration := some { d with
                count := d.count + m, remaining := d.remaining + (if d.unit = .minutes then m * 60 else m) } }).respond
              i x .ok [])))

/-- ADJUST in the holding states, in order: WRONG_STATE outside ACTIVE and SUSPENDED, form, extension, range, cell quota, cells, budget. The first
that fails gives the response, and nothing changes. An extension alone raises remaining (R87, R91). -/
def Obligations.AdjustIsCheckedInOrder : Prop :=
  ∀ (x : Seat) (p : AdjustParams) (s : State) (k : Fin 32) (l : Lease), Subject (.adjust x p) x p.handle s k l →
    let s1 := s.taken
    let i := Instr.adjust x p
    let refused (st : Status) (payload : List Byte) := exec i s = .next (s1.respond i x st payload)
    ((∃ ph, l.state = .starting ph) ∨ l.state = .verifying ∨ (∃ d, l.state = .rampdown d) ∨ (∃ why, l.state = .closed why) →
      refused .wrongState []) ∧
    ((∃ m u, l.state = .active m u) ∨ (∃ why, l.state = .suspended why) →
      (adjustRequest? p = none → refused .badParam []) ∧
      ∀ q, adjustRequest? p = some q →
        (∀ m, q.extension = some m →
          (l.duration = none → refused .badParam []) ∧ ∀ d, l.duration = some d → 4095 < d.reported + m → refused .badParam []) ∧
        (∀ m d, q.extension = some m → l.duration = some d → d.reported + m ≤ 4095 → q.target = none →
          exec i s = .next ((s1.putLease k { l with
            duration := some { d with remaining := d.remaining + (if d.unit = .minutes then m * 60 else m) } }).respond
            i x .ok [])) ∧
        ∀ target a, q.target = some target → l.alloc = some a →
          (∀ m, q.extension = some m → ∃ d, l.duration = some d ∧ d.reported + m ≤ 4095) →
          let n := cellCount (l.range.getD .low) target
          let len := a.cells.length
          let e := s1.bank a.bank
          (6 < n → refused .rangeExceeded []) ∧
          (n ≤ 6 →
            ((s1.seat l.owner).cellQuota < s1.allottedCount l.owner - len + max len n → refused .quota []) ∧
            (s1.allottedCount l.owner - len + max len n ≤ (s1.seat l.owner).cellQuota →
              ((s1.freeIn a.bank).length < n - len → refused .noResources [0x03#8]) ∧
              (n - len ≤ (s1.freeIn a.bank).length →
                e.budget < s1.committed a.bank - a.charge + chargeOf target e.rail → refused .noResources [0x04#8]))))

/-- An accepted retarget: new target, cell list, base code, trim 0 and charge; appended cells become ALLOTTED. In ACTIVE an adjust ramp starts; in
SUSPENDED the leaving cells are freed at once, with codes 0, and leave the list, and no ramp starts. A lowered charge or freed cells bring one
rescan (R88 to R90). The reported remaining is in the lease's unit, rounded up (R12). -/
def Obligations.RetargetRebuildsAllocation : Prop :=
  (∀ (x : Seat) (p : AdjustParams) (q : AdjustRequest) (s : State) (k : Fin 32) (l : Lease) (a : Allocation) (target : Nat),
    Subject (.adjust x p) x p.handle s k l → adjustRequest? p = some q → q.target = some target → l.alloc = some a →
    let s1 := s.taken
    let i := Instr.adjust x p
    let n := cellCount (l.range.getD .low) target
    let len := a.cells.length
    let charge := chargeOf target (s1.bank a.bank).rail
    n ≤ 6 → s1.allottedCount l.owner - len + max len n ≤ (s1.seat l.owner).cellQuota →
    n - len ≤ (s1.freeIn a.bank).length → s1.committed a.bank - a.charge + charge ≤ (s1.bank a.bank).budget →
    ∀ d, (q.extension = none ∧ d = l.duration) ∨
        (∃ m c, q.extension = some m ∧ l.duration = some c ∧ c.reported + m ≤ 4095 ∧
          d = some { c with remaining := c.remaining + (if c.unit = .minutes then m * 60 else m) }) →
      let s2 := s1.retarget k { l with duration := d } a target
      (∀ m u, l.state = .active m u → exec i s = .next
        (((s2.startTargetRamp k).rescanIf (decide (charge < a.charge))).respond i x .ok [])) ∧
      (∀ why, l.state = .suspended why → exec i s = .next
        (((s2.freeLeaving k).rescanIf (decide (charge < a.charge) || decide (n < len))).respond i x .ok []))) ∧
  (∀ (s : State) (k : Fin 32) (l : Lease) (a : Allocation) (target : Nat),
    let r := l.range.getD .low
    let n := cellCount r target
    let appended := (s.freeIn a.bank).take (n - a.cells.length)
    let t := s.retarget k l a target
    let a1 : Allocation := { bank := a.bank, cells := a.rebuilt n (s.freeIn a.bank), baseCode := baseCodeOf r n target
                             trim := 0, charge := chargeOf target (s.bank a.bank).rail }
    t.lease? k = some { l with target := target, alloc := some a1 } ∧
    (∀ j, j ≠ k → t.slot j = s.slot j) ∧
    (∀ c, t.cell c = if c ∈ appended then { s.cell c with state := .allotted (s.handleAt k), route := some l.terminal }
      else s.cell c) ∧
    (∀ c, t.drive c = if c ∈ appended then { s.drive c with range := r } else s.drive c) ∧
    (∀ b, t.committed b =
      if b = a.bank then s.committed b - a.charge + chargeOf target (s.bank b).rail else s.committed b) ∧
    (∀ b, t.bank b = s.bank b) ∧ (∀ m, t.terminal m = s.terminal m) ∧ (t.slot k).gen = (s.slot k).gen ∧
    t.engine.bankOnNotices = s.engine.bankOnNotices ∧ t.engine.lapseNotices = s.engine.lapseNotices ∧
    t.engine.results = s.engine.results ∧ t.allocator.waitExpiryNotices = s.allocator.waitExpiryNotices ∧
    t.allocator.waitList = s.allocator.waitList ∧ t.seatCtl = s.seatCtl ∧ t.meas = s.meas ∧ t.pool = s.pool ∧
    t.selfTest = s.selfTest ∧ t.port = s.port ∧ t.straps = s.straps ∧ t.pending = s.pending) ∧
  (∀ (s : State) (k : Fin 32) (l : Lease) (a : Allocation), s.lease? k = some l → l.alloc = some a →
    let t := s.freeLeaving k
    let gone (c : Fin 24) := ∃ e ∈ a.cells, e.cell = c ∧ e.leaving = true
    t.lease? k = some { l with alloc := some { a with cells := a.cells.filter fun e => !e.leaving } } ∧
    (∀ j, j ≠ k → t.slot j = s.slot j) ∧ (t.slot k).gen = (s.slot k).gen ∧
    (∀ c, gone c → t.cell c = { s.cell c with state := .free, route := none } ∧ t.drive c = { s.drive c with code := 0 }) ∧
    (∀ c, ¬gone c → t.cell c = s.cell c ∧ t.drive c = s.drive c) ∧ (∀ b, t.committed b = s.committed b) ∧
    (∀ b, t.bank b = s.bank b) ∧ (∀ m, t.terminal m = s.terminal m) ∧
    t.engine.bankOnNotices = s.engine.bankOnNotices ∧ t.engine.lapseNotices = s.engine.lapseNotices ∧
    t.engine.results = s.engine.results ∧ t.allocator.waitExpiryNotices = s.allocator.waitExpiryNotices ∧
    t.allocator.waitList = s.allocator.waitList ∧ t.seatCtl = s.seatCtl ∧ t.meas = s.meas ∧ t.pool = s.pool ∧
    t.selfTest = s.selfTest ∧ t.port = s.port ∧ t.straps = s.straps ∧ t.pending = s.pending) ∧
  (∀ d : Duration, (d.unit = .seconds → d.reported = d.remaining) ∧
    (d.unit = .minutes → d.remaining ≤ 60 * d.reported ∧ 60 * d.reported < d.remaining + 60)) ∧
  ∀ (a : Allocation) (n : Nat) (stay leave free : List (Fin 24)),
    let kept (cs : List (Fin 24)) : List ListedCell := cs.map (⟨·, false⟩)
    let leaving (cs : List (Fin 24)) : List ListedCell := cs.map (⟨·, true⟩)
    a.cells = kept stay ++ leaving leave →
      (n = stay.length → a.rebuilt n free = a.cells) ∧
      (n < stay.length → a.rebuilt n free = kept (stay.take n) ++ leaving (stay.drop n ++ leave)) ∧
      (stay.length < n → n ≤ stay.length + leave.length →
        a.rebuilt n free = kept (stay ++ leave.take (n - stay.length)) ++ leaving (leave.drop (n - stay.length))) ∧
      (stay.length + leave.length < n →
        a.rebuilt n free = kept (stay ++ leave ++ free.take (n - stay.length - leave.length)))

/-! ## Seats, events, reading (spec chapters 7 and 10, R27, R169) -/

/-- TOUCH by keepalive state: ARMED goes to the full period with no part-second, LAPSED to ARMED or, with period 0, to DISARMED, and its level event
clears once acknowledged; DISARMED stays. Nothing else changes, and TOUCH passes the hold and lapse checks. -/
def Obligations.TouchActsByKeepaliveState : Prop :=
  (∀ (x : Seat) (s : State), Accepted (.touch x) s →
    let s1 := s.taken
    let i := Instr.touch x
    let e := s1.seat x
    let ended := decide (e.acked &&& 0x0010#16 ≠ 0#16)
    (e.keepalive = .disarmed → exec i s = .next (s1.respond i x .ok [])) ∧
    ∀ n, e.period = some n →
      (∀ r u, e.keepalive = .armed r u → 0 < n →
        exec i s = .next ((s1.setSeat x { e with keepalive := .armed n 0 }).respond i x .ok [])) ∧
      (e.keepalive = .lapsed → exec i s = .next ((s1.setSeat x { e with
        keepalive := if n = 0 then .disarmed else .armed n 0
        latched := if ended then e.latched &&& ~~~0x0010#16 else e.latched
        acked := if ended then e.acked &&& ~~~0x0010#16 else e.acked }).respond i x .ok []))) ∧
  ∀ (x : Seat) (s : State), s.mayDispatch x (frameOf (.touch x)) = true → (s.taken.seat x).enabled = true →
    Accepted (.touch x) s

/-- EVENTS refuses an undefined event; else it reports the seat's marks as they stood and the mask after the request, applies the acknowledgements
unless a tenant's are deferred in HOLD, and writes the mask. An edge event named clears; a level event named and latched becomes
acknowledged while its condition holds and else clears. The acknowledged mark of an edge event and the bits that name no event stay.
Nothing but the seat's marks and mask changes (R153, R159 to R162). Each event has the bit 11.5 gives it, and a posting of an edge event latches
that bit at an enabled seat (R159). -/
def Obligations.EventsReportsThenAcknowledges : Prop :=
  (∀ e ∈ [(Event.started, 0), (.admitted, 1), (.suspended, 2), (.closed, 3), (.lapsed, 4), (.hold, 5), (.bankFault, 6),
    (.testDone, 7), (.trip, 8)], e.1.mark = 1#16 <<< e.2 ∧ ∀ set : EventSet, set.has e.1 = set.getLsbD e.2) ∧
  (∀ (s : State) (x : Seat) (v : Event), s.postEdge x v =
    if (s.seat x).enabled then s.setSeat x { s.seat x with latched := (s.seat x).latched ||| v.mark } else s) ∧
  ∀ (x : Seat) (ack : BitVec 16) (mask : Option (BitVec 16)) (s : State), Accepted (.events x ack mask) s →
    let s1 := s.taken
    let i := Instr.events x ack mask
    let e := s1.seat x
    ((ack ||| mask.getD 0#16) &&& 0xFE00#16 ≠ 0#16 → exec i s = .next (s1.respond i x .badParam [])) ∧
    ((ack ||| mask.getD 0#16) &&& 0xFE00#16 = 0#16 →
      ∃ latched acked : EventSet,
        let e' := { e with latched := latched, acked := acked, mask := mask.getD e.mask }
        exec i s = .next ((s1.setSeat x e').respond i x .ok (bytes16 e.latched ++ bytes16 e.acked ++ bytes16 e'.mask)) ∧
        latched &&& 0xFE00#16 = e.latched &&& 0xFE00#16 ∧ acked &&& 0xFE00#16 = e.acked &&& 0xFE00#16 ∧
        ∀ v : Event,
          let taken := (x = .s ∨ s1.held = false ∨ s1.seatCtl.ackInHold = true) ∧ EventSet.has ack v = true
          let holds := match v with
            | .lapsed => e.keepalive = .lapsed
            | .hold => s1.pool.state ≠ .run
            | .bankFault => ∃ b, (s1.bank b).state = .faulted
            | .started | .admitted | .suspended | .closed | .testDone | .trip => False
          (¬taken ∨ e.latched.has v = false → latched.has v = e.latched.has v ∧ acked.has v = e.acked.has v) ∧
          (taken → e.latched.has v = true → v ∈ [Event.lapsed, .hold, .bankFault] →
            (holds → latched.has v = true ∧ acked.has v = true) ∧ (¬holds → latched.has v = false ∧ acked.has v = false)) ∧
          (v ∉ [Event.lapsed, .hold, .bankFault] → acked.has v = e.acked.has v) ∧
          (taken → v ∉ [Event.lapsed, .hold, .bankFault] → latched.has v = false))

/-- STATUS answers its 36 bytes and CELL QUERY its 42, each as the tables stand, and both change nothing but the page (R27, R169, 11.5). The free cell
count is that of the FREE cells of banks that are not DISABLED (R23), the occupancy that of the slots with a record (R1). -/
def Obligations.StatusAndCellQueryChangeNothing : Prop :=
  (∀ (x : Seat) (s : State), Accepted (.status x) s →
    exec (.status x) s = .next (s.taken.respond (.status x) x .ok s.taken.statusPayload)) ∧
  (∀ (x : Seat) (bank : Byte) (s : State), Accepted (.cellQuery x bank) s →
    let i := Instr.cellQuery x bank
    (4 ≤ bank.toNat → exec i s = .next (s.taken.respond i x .badParam [])) ∧
    ∀ b : Fin 4, bank.toNat = b.val → exec i s = .next (s.taken.respond i x .ok (s.taken.cellPayload b))) ∧
  (∀ s : State,
    let p := s.statusPayload
    let at' (j : Nat) := (p.getD j 0#8).toNat
    p.length = 36 ∧
    at' 0 = (match s.pool.state with | .run => 0 | .hold .request => 1 | .hold (.trip n) => 2 + n.val) ∧
    (∀ b : Fin 4, at' (1 + 3 * b.val) = (match (s.bank b).state with
        | .disabled => 0 | .off => 1 | .waking _ => 2 | .on => 3 | .linger _ _ => 4 | .testing _ => 5 | .faulted => 6) ∧
      (s.committed b < 2 ^ 16 → at' (2 + 3 * b.val) + 256 * at' (3 + 3 * b.val) = s.committed b)) ∧
    at' 13 = ((List.finRange 24).countP fun c =>
      (s.cell c).state = .free ∧ (s.bank ⟨c.val / 6, by omega⟩).state ≠ .disabled) ∧
    at' 14 = ((List.finRange 32).countP fun k => (s.lease? k).isSome) ∧ (s.allocator.waitList.length < 256 → at' 15 = s.allocator.waitList.length) ∧
    (∀ m : Fin 16, p.getD (16 + m.val) 0#8 = (s.terminal m).holder.getD 0xFF#8 ∧
      (at' 32 + 256 * at' 33) / 2 ^ m.val % 2 = if (s.terminal m).switchClosed then 1 else 0) ∧
    at' 34 = (if s.meas.running then 1 else 0) ∧
    ∀ n : Fin 4, at' 35 / 2 ^ n.val % 2 = (if (s.pool.trips[n]).armed then 1 else 0) ∧
      at' 35 / 2 ^ (4 + n.val) % 2 = if (s.pool.trips[n]).fired then 1 else 0) ∧
  ∀ (s : State) (b : Fin 4),
    let p := s.cellPayload b
    let at' (j : Nat) := (p.getD j 0#8).toNat
    p.length = 42 ∧
    ∀ (j : Fin 6) (c : Fin 24), c.val = 6 * b.val + j.val →
      at' (7 * j.val) = (match (s.cell c).state with | .free => 0 | .allotted _ => 1 | .testing => 2 | .outOfService _ => 3) ∧
      p.getD (7 * j.val + 1) 0#8 = (match (s.cell c).state with | .allotted h => h | _ => 0xFF#8) ∧
      at' (7 * j.val + 2) = (match (s.cell c).lastResult with
        | .untested => 0 | .pass => 1 | .failGain => 2 | .failOffset => 3 | .failLeak => 4 | .incomplete => 5) ∧
      at' (7 * j.val + 3) = (match (s.cell c).state with
        | .outOfService .test => 1 | .outOfService .supervisor => 2 | _ => 0) ∧
      at' (7 * j.val + 4) = (match (s.drive c).range with | .low => 0 | .mid => 1 | .high => 2) ∧
      ((s.drive c).code < 2 ^ 16 → at' (7 * j.val + 5) + 256 * at' (7 * j.val + 6) = (s.drive c).code)

/-- SEAT SET: its form, then address conflict, quotas and disable in order; an accepted one applies all its fields in one act, with the keepalive and
the event set following the enable and the period, and one rescan for a raised quota (R129, R130). SEAT_BUSY for a busy mark set for
whatever reason is the model's reading (log 16), and so is that presence bits 6 and 7 (log 33) and an address byte from 0x80 (log 34) refuse it. -/
def Obligations.SeatSetChecksAndApplies : Prop :=
  (∀ p : SeatSetParams,
    let has (j : Nat) := p.presence.getLsbD j = true
    ((seatSetRequest? p).isSome = true ↔
      1 ≤ p.seat.toNat ∧ p.seat.toNat ≤ 4 ∧ 1 ≤ p.presence.toNat ∧ p.presence.toNat < 64 ∧
      (has 0 → 0x08 ≤ p.address.toNat ∧ p.address.toNat ≤ 0x77) ∧ (has 1 → p.enable.toNat ≤ 1) ∧
      (has 2 → p.leaseQuota.toNat ≤ 32) ∧ (has 3 → p.cellQuota.toNat ≤ 24) ∧ (has 5 → p.policy.toNat ≤ 1)) ∧
    ∀ q, seatSetRequest? p = some q →
      let given {α : Type} (j : Nat) (a : α) := if p.presence.getLsbD j then some a else none
      q.seat.idx.val = p.seat.toNat ∧ q.address = given 0 (BitVec.ofNat 7 p.address.toNat) ∧
      q.enable = given 1 (decide (p.enable.toNat = 1)) ∧ q.leaseQuota = given 2 p.leaseQuota.toNat ∧
      q.cellQuota = given 3 p.cellQuota.toNat ∧ q.period = given 4 p.period.toNat ∧
      q.policy = given 5 (if p.policy.toNat = 1 then LapsePolicy.closeAll else .suspendAll)) ∧
  ∀ (x : Seat) (p : SeatSetParams) (s : State), Accepted (.seatSet x p) s →
    let s1 := s.taken
    let i := Instr.seatSet x p
    let refused (st : Status) := exec i s = .next (s1.respond i x st [])
    (seatSetRequest? p = none → refused .badParam) ∧
    ∀ q, seatSetRequest? p = some q →
      let e := s1.seat q.seat
      let clash := q.enable.getD e.enabled = true ∧
        ∃ y, y ≠ q.seat ∧ (s1.seat y).enabled = true ∧ (s1.seat y).address = q.address.getD e.address
      let tooLow := (∃ n, q.leaseQuota = some n ∧ n < s1.recordCount q.seat) ∨
        ∃ n, q.cellQuota = some n ∧ n < s1.allottedCount q.seat
      let inUse := q.enable = some false ∧ (s1.recordCount q.seat ≠ 0 ∨ s1.busy q.seat = true)
      (clash → refused .badParam) ∧ (tooLow → refused .badParam) ∧
      (¬clash → ¬tooLow → inUse → refused .seatBusy) ∧
      (¬clash → ¬tooLow → ¬inUse →
        let period := q.period.getD (e.period.getD 0)
        let fresh : Keepalive := if period = 0 then .disarmed else .armed period 0
        let applied : SeatEntry := { e with
          address := q.address.getD e.address, leaseQuota := q.leaseQuota.getD e.leaseQuota
          cellQuota := q.cellQuota.getD e.cellQuota, period := some period
          policy := some (q.policy.getD (e.policy.getD .suspendAll)) }
        let after (f : SeatEntry) := exec i s = .next (((s1.setSeat q.seat f).rescanIf
          (decide (e.leaseQuota < f.leaseQuota) || decide (e.cellQuota < f.cellQuota))).respond i x .ok [])
        (q.enable = some false →
          after { applied with enabled := false, keepalive := .disarmed, latched := 0#16, acked := 0#16 }) ∧
        (q.enable = some true → e.enabled = false → s1.held = false →
          after { applied with enabled := true, keepalive := fresh }) ∧
        (q.enable = some true → e.enabled = false → s1.held = true →
          after { applied with
            enabled := true, keepalive := fresh, latched := e.latched ||| 0x0020#16, acked := e.acked &&& ~~~0x0020#16 }) ∧
        (q.enable ≠ some false → e.enabled = true →
          (q.period ≠ none → e.keepalive ≠ .lapsed → after { applied with keepalive := fresh }) ∧
          (q.period = none ∨ e.keepalive = .lapsed → after applied)) ∧
        (q.enable = none → e.enabled = false → after { applied with keepalive := .disarmed }))

/-! ## Banks, cells and terminals (spec chapter 2) -/

/-- BANK SET: its form, then strap, rail, budget and disable in order; an accepted one applies all its fields in one act, ends a disabled bank's part in
BANK_FAULT, and takes one rescan for a raised budget or an enable. BANK CLEAR returns a FAULTED bank to OFF with a rescan (R42, R43). That presence
bits 4 to 7 refuse a BANK SET is the model's reading of R172 (log 33). -/
def Obligations.BankSetAndBankClear : Prop :=
  (∀ p : BankSetParams,
    let has (j : Nat) := p.presence.getLsbD j = true
    ((bankSetRequest? p).isSome = true ↔
      p.bank.toNat ≤ 3 ∧ 1 ≤ p.presence.toNat ∧ p.presence.toNat < 16 ∧
      (has 0 → 3000 ≤ p.rail.toNat ∧ p.rail.toNat ≤ 28000 ∧ p.rail.toNat % 100 = 0) ∧
      (has 1 → p.budget.toNat ≤ 20000) ∧ (has 2 → p.linger.toNat ≤ 60) ∧ (has 3 → p.enable.toNat ≤ 1)) ∧
    ∀ q, bankSetRequest? p = some q →
      let given {α : Type} (j : Nat) (a : α) := if p.presence.getLsbD j then some a else none
      q.bank.val = p.bank.toNat ∧ q.rail = given 0 p.rail.toNat ∧ q.budget = given 1 p.budget.toNat ∧
      q.linger = given 2 p.linger.toNat ∧ q.enable = given 3 (decide (p.enable.toNat = 1))) ∧
  (∀ (x : Seat) (p : BankSetParams) (s : State), Accepted (.bankSet x p) s →
    let s1 := s.taken
    let i := Instr.bankSet x p
    let refused (st : Status) := exec i s = .next (s1.respond i x st [])
    (bankSetRequest? p = none → refused .badParam) ∧
    ∀ q, bankSetRequest? p = some q →
      let e := s1.bank q.bank
      let inUse := ∃ c, bankOf c = q.bank ∧ ((∃ h, (s1.cell c).state = .allotted h) ∨ (s1.cell c).state = .testing)
      let busy := (∃ v, q.rail = some v ∧ v ≠ e.rail ∧ inUse) ∨ (∃ v, q.budget = some v ∧ v < s1.committed q.bank) ∨
        (q.enable = some false ∧ inUse)
      (e.strapEnabled = false → refused .bankUnavailable) ∧ (e.strapEnabled = true → busy → refused .bankBusy) ∧
      (e.strapEnabled = true → ¬busy →
        let set (st : BankState) := s1.setBank q.bank { e with
          rail := q.rail.getD e.rail, budget := q.budget.getD e.budget, lingerTime := q.linger.getD e.lingerTime, state := st }
        let raised := decide (e.budget < q.budget.getD e.budget)
        (q.enable = some false → exec i s = .next (((set .disabled).endBankFault.rescanIf raised).respond i x .ok [])) ∧
        (q.enable = some true → e.state = .disabled → exec i s = .next (((set .off).rescan).respond i x .ok [])) ∧
        (q.enable = none ∨ (q.enable = some true ∧ e.state ≠ .disabled) →
          exec i s = .next (((set e.state).rescanIf raised).respond i x .ok [])))) ∧
  (∀ (x : Seat) (bank : Byte) (s : State), Accepted (.bankClear x bank) s →
    let s1 := s.taken
    let i := Instr.bankClear x bank
    (4 ≤ bank.toNat → exec i s = .next (s1.respond i x .badParam [])) ∧
    ∀ b : Fin 4, bank.toNat = b.val →
      ((s1.bank b).state ≠ .faulted → exec i s = .next (s1.respond i x .wrongState [])) ∧
      ((s1.bank b).state = .faulted → exec i s = .next
        (((s1.setBank b { s1.bank b with state := .off, driving := 0, claims := 0 }).endBankFault.rescan).respond i x .ok []))) ∧
  ∀ s : State,
    let e := s.seat .s
    ((∃ b, (s.bank b).state = .faulted) ∨ e.acked &&& 0x0040#16 = 0#16 → s.endBankFault = s) ∧
    ((∀ b, (s.bank b).state ≠ .faulted) → e.acked &&& 0x0040#16 ≠ 0#16 → s.endBankFault =
      s.setSeat .s { e with latched := e.latched &&& ~~~0x0040#16, acked := e.acked &&& ~~~0x0040#16 })

/-- CELL OUT takes a FREE cell out of service, CELL IN returns an OUT_OF_SERVICE cell with a rescan, TERMINAL SET sets the requested idle mode and, on a
terminal without a holder, the mode in effect. Each has its refusals, and changes nothing else (R25, R26, R45 to R47). -/
def Obligations.CellOutCellInTerminalSet : Prop :=
  (∀ (x : Seat) (cell : Byte) (s : State) (i : Instr), i = .cellOut x cell ∨ i = .cellIn x cell → Accepted i s →
    let s1 := s.taken
    (24 ≤ cell.toNat → exec i s = .next (s1.respond i x .badParam [])) ∧
    ∀ c : Fin 24, cell.toNat = c.val →
      let e := s1.cell c
      let strapped := (s1.bank ⟨c.val / 6, by omega⟩).strapEnabled = true
      (¬strapped → exec i s = .next (s1.respond i x .bankUnavailable [])) ∧
      (strapped → i = .cellOut x cell →
        (e.state = .free →
          exec i s = .next ((s1.setCell c { e with state := .outOfService .supervisor }).respond i x .ok [])) ∧
        (e.state ≠ .free → exec i s = .next (s1.respond i x .wrongState []))) ∧
      (strapped → i = .cellIn x cell →
        (∀ w, e.state = .outOfService w →
          exec i s = .next ((s1.setCell c { e with state := .free }).rescan.respond i x .ok [])) ∧
        ((∀ w, e.state ≠ .outOfService w) → exec i s = .next (s1.respond i x .wrongState [])))) ∧
  ∀ (x : Seat) (terminal mode : Byte) (s : State), Accepted (.terminalSet x terminal mode) s →
    let s1 := s.taken
    let i := Instr.terminalSet x terminal mode
    (16 ≤ terminal.toNat ∨ 2 ≤ mode.toNat → exec i s = .next (s1.respond i x .badParam [])) ∧
    ∀ (m : Fin 16) (v : IdleMode), terminal.toNat = m.val → mode.toNat = (match v with | .discharge => 0 | .float => 1) →
      let e := s1.terminal m
      (e.holder = none → exec i s = .next ((s1.setTerminal m { e with requested := v, idle := v }).respond i x .ok [])) ∧
      (e.holder ≠ none → exec i s = .next ((s1.setTerminal m { e with requested := v }).respond i x .ok []))

/-! ## The scan and the Measurement Unit (spec chapter 5) -/

/-- SCAN SET writes the pending configuration, SCAN START makes it active and starts the scan afresh, SCAN STOP stops it and its dwell timer; each
changes nothing else before the unit reconsiders (R99 to R101). -/
def Obligations.ScanRequestsConfigureAndRun : Prop :=
  (∀ p : ScanSetParams,
    ((scanConfig? p).isSome = true ↔
      p.averaging.toNat ∈ [1, 2, 4, 8] ∧ p.offset.toNat ≤ 1 ∧ 1 ≤ p.dwell.toNat ∧ p.dwell.toNat ≤ 100 ∧
      p.mode.toNat ≤ 1 ∧ (p.mode.toNat = 1 → p.terminal.toNat ≤ 15)) ∧
    ∀ c, scanConfig? p = some c →
      c.averaging = p.averaging.toNat ∧ c.offsetCancel = decide (p.offset.toNat = 1) ∧ c.dwell = p.dwell.toNat ∧
      (p.mode.toNat = 0 → c.mode = .roundRobin) ∧
      (p.mode.toNat = 1 → ∃ m : Fin 16, m.val = p.terminal.toNat ∧ c.mode = .lock m)) ∧
  (∀ (x : Seat) (p : ScanSetParams) (s : State), Accepted (.scanSet x p) s →
    let s1 := s.taken
    let i := Instr.scanSet x p
    (scanConfig? p = none → exec i s = .next (s1.respond i x .badParam [])) ∧
    ∀ c, scanConfig? p = some c →
      exec i s = .next ({ s1 with meas := { s1.meas with pending := c } }.respond i x .ok [])) ∧
  (∀ (x : Seat) (s : State), Accepted (.scanStart x) s →
    let s1 := s.taken
    let m := { s1.meas with active := s1.meas.pending, running := true, position := 15, dwell := none, visitDue := true }
    exec (.scanStart x) s = .next ({ s1 with meas := m }.reconsider.respond (.scanStart x) x .ok [])) ∧
  ∀ (x : Seat) (s : State), Accepted (.scanStop x) s →
    let s1 := s.taken
    exec (.scanStop x) s =
      .next ({ s1 with meas := { s1.meas with running := false, dwell := none } }.respond (.scanStop x) x .ok [])

/-- What the Measurement Unit starts when it reconsiders: nothing while converting; else the first valid verify entry, stale ones before it being
removed; else, when RUNNING with a visit due, a qualifying terminal. A conversion is stamped with handle and ramp count (R94, R96 to
R98, R103, R104). -/
def Obligations.ReconsiderChoosesWork : Prop :=
  ∀ s : State,
    let m := s.meas
    let valid (h : Handle) := ∃ k l, s.resolve h = some (k, l) ∧ l.state = .verifying
    let start (m : MeasurementUnit) (src : Source) (h : Handle) (l : Lease) : State :=
      let c : Conversion := { terminal := l.terminal, source := src, handle := h, rampStamp := l.rampCount
                              averaging := m.active.averaging, offsetCancel := m.active.offsetCancel
                              timeLeft := 16 * (m.active.averaging + if m.active.offsetCancel then 1 else 0) }
      { s with meas := { m with conversion := some c } }
    let qualifies (n : Fin 16) (h : Handle) (k : Fin 32) (l : Lease) :=
      (s.terminal n).holder = some h ∧ s.resolve h = some (k, l) ∧ (∃ st u, l.state = .active st u) ∧ l.ramp = none
    let idle := { s with meas := { m with verifyQueue := [] } }
    (m.conversion ≠ none → s.reconsider = s) ∧
    (m.conversion = none →
      (∀ stale h rest k l, m.verifyQueue = stale ++ h :: rest → (∀ g ∈ stale, ¬valid g) → s.resolve h = some (k, l) →
        l.state = .verifying → s.reconsider = start { m with verifyQueue := rest } .verify h l) ∧
      ((∀ g ∈ m.verifyQueue, ¬valid g) →
        (m.running = false ∨ m.visitDue = false → s.reconsider = idle) ∧
        (m.running = true → m.visitDue = true →
          ((∀ n h k l, (m.active.mode = .roundRobin ∨ m.active.mode = .lock n) → ¬qualifies n h k l) → s.reconsider = idle) ∧
          (∀ n h k l, m.active.mode = .lock n → qualifies n h k l →
            s.reconsider = start { m with verifyQueue := [], position := n, dwell := none, visitDue := false } .scan h l) ∧
          ∀ n h k l, m.active.mode = .roundRobin → qualifies n h k l →
            (∀ n' h' k' l', qualifies n' h' k' l' →
              (n.val + 15 - m.position.val) % 16 ≤ (n'.val + 15 - m.position.val) % 16) →
            s.reconsider = start { m with verifyQueue := [], position := n, dwell := none, visitDue := false } .scan h l)))

/-- A conversion's completion hands its result to the Lease Engine, and a scan's starts the dwell when RUNNING; the dwell's end makes a visit due. Then
the unit reconsiders. A figure is the mean of its capped samples less the grounded one, nearest with halves upward, and never negative
(R95, R105; integer samples that match the conversion are the model's choice, log 13). Both rows are taken as told, whatever time is left
(log 5). DWELL_ELAPSES with no dwell running and CONVERSION_COMPLETE with no conversion in flight (log 2), or with samples that do not match it
(log 13), have no effect: the model's choices. -/
def Obligations.ConversionHandsResultAndDwellFollows : Prop :=
  (∀ (s : State) (c : Conversion) (m : Samples), s.settle.meas.conversion = some c →
    m.current.length = c.averaging → m.voltage.length = c.averaging → m.offset.isSome = c.offsetCancel →
    let s1 := s.settle
    let f := figuresOf m
    let handed (mu : MeasurementUnit) : State := { s1 with
      meas := mu
      engine := { s1.engine with
        results := s1.engine.results ++ [⟨c.terminal, c.source, c.handle, c.rampStamp, f.current, f.voltage⟩] } }
    let free := { s1.meas with conversion := none }
    (c.source = .verify ∨ s1.meas.running = false →
      exec (.conversionComplete m) s = .next (handed free).reconsider.driveOutputs) ∧
    (c.source = .scan → s1.meas.running = true → exec (.conversionComplete m) s =
      .next (handed { free with dwell := some (s1.meas.active.dwell * 32), visitDue := false }).reconsider.driveOutputs)) ∧
  (∀ (s : State) (m : Samples), (∀ c, s.settle.meas.conversion = some c →
      m.current.length ≠ c.averaging ∨ m.voltage.length ≠ c.averaging ∨ m.offset.isSome ≠ c.offsetCancel) →
    exec (.conversionComplete m) s = .next s.settle.driveOutputs) ∧
  (∀ (s : State) (d : Nat), s.settle.meas.dwell = some d →
    let s1 := s.settle
    exec .dwellElapses s = .next { s1 with meas := { s1.meas with dwell := none, visitDue := true } }.reconsider.driveOutputs) ∧
  (∀ s : State, s.settle.meas.dwell = none → exec .dwellElapses s = .next s.settle.driveOutputs) ∧
  ∀ (m : Samples), m.current ≠ [] → m.voltage ≠ [] →
    let figure (cap : Int) (samples : List Int) (grounded : Int) (v : Nat) :=
      let n : Int := samples.length
      let total := (samples.map (min cap)).sum - n * min cap grounded
      (2 * total < -n → v = 0) ∧ (-n ≤ 2 * total → -n ≤ 2 * total - 2 * n * v ∧ 2 * total - 2 * n * v < n)
    let g := m.offset.getD (0, 0)
    figure 700000 m.current g.1 (figuresOf m).current ∧ figure 30000 m.voltage g.2 (figuresOf m).voltage

/-- A delivered result is applied only when its handle names the holder of its terminal, in the stamped state, at the stamped ramp count; else it is
discarded. A verify result passes into ACTIVE or takes the fault path; a scan result sets the measurement, makes the compliance test and
the trim step, and goes on to Pool Control (R76, R106 to R111). RESULT_DELIVERY takes the oldest result (log 17), and with none it has no
effect (log 2: the model's choices). -/
def Obligations.ResultIsAppliedOrDiscarded : Prop :=
  (∀ (s : State) (r : Result) (rest : List Result), s.settle.engine.results = r :: rest →
    let s1 : State := { s.settle with engine := { s.settle.engine with results := rest } }
    let applies (k : Fin 32) (l : Lease) := s1.resolve r.handle = some (k, l) ∧
      (s1.terminal r.terminal).holder = some r.handle ∧ l.rampCount = r.rampStamp ∧
      (match r.source with | .verify => l.state = .verifying | .scan => ∃ st u, l.state = .active st u)
    ((∀ k l, ¬applies k l) → exec .resultDelivery s = .next s1.driveOutputs) ∧
    ∀ k l, applies k l →
      let measured (st : LeaseState) := s1.putLease k { l with lastMeasurement := some ⟨r.current, r.voltage⟩, state := st }
      (r.source = .verify →
        (l.compliance < r.voltage →
          exec .resultDelivery s = .next ((measured .verifying).faultPath k .compliance).driveOutputs) ∧
        (r.voltage ≤ l.compliance → r.current * 2 < l.target →
          exec .resultDelivery s = .next ((measured .verifying).faultPath k .openLoad).driveOutputs) ∧
        (r.voltage ≤ l.compliance → l.target ≤ r.current * 2 →
          exec .resultDelivery s = .next ((measured (.active false 0)).postLease k .started).reconsider.driveOutputs)) ∧
      (∀ strike u, r.source = .scan → l.state = .active strike u →
        let handed (t : State) := t.handPool (.scan r.terminal r.current)
        (l.compliance < r.voltage → strike = true →
          exec .resultDelivery s = .next (handed ((measured (.active true u)).faultPath k .compliance)).driveOutputs) ∧
        (l.compliance < r.voltage → strike = false →
          exec .resultDelivery s = .next (handed (measured (.active true u))).driveOutputs) ∧
        (r.voltage ≤ l.compliance →
          exec .resultDelivery s = .next (handed ((measured (.active false u)).trimStep k r.current)).driveOutputs))) ∧
  (∀ s : State, s.settle.engine.results = [] → exec .resultDelivery s = .next s.settle.driveOutputs) ∧
  ∀ (s : State) (k : Fin 32) (l : Lease) (a : Allocation) (current : Nat), s.lease? k = some l → l.alloc = some a →
    let band := l.tolerance.getD (max 10 ((l.target + 99) / 100))
    let next : Int := if current + band < l.target then a.trim + 1 else if l.target + band < current then a.trim - 1 else a.trim
    let t := s.trimStep k current
    (l.regulate = false ∨ s.held = true ∨ next = a.trim → t = s) ∧
    (l.regulate = true → s.held = false → next ≠ a.trim →
      (next < -64 ∨ 63 < next → t = s.faultPath k .trimLimit) ∧
      (-64 ≤ next → next ≤ 63 →
        t.lease? k = some { l with alloc := some { a with trim := next } } ∧ (∀ j, j ≠ k → t.slot j = s.slot j) ∧
        (t.slot k).gen = (s.slot k).gen ∧ t.engine.bankOnNotices = s.engine.bankOnNotices ∧
        t.engine.lapseNotices = s.engine.lapseNotices ∧ t.engine.results = s.engine.results ∧ t.meas = s.meas ∧
        t.pool = s.pool ∧ t.selfTest = s.selfTest ∧ t.port = s.port ∧ t.straps = s.straps ∧ t.pending = s.pending ∧
        t.allocator = s.allocator ∧ t.banks = s.banks ∧ t.seatCtl = s.seatCtl ∧
        ∀ lead rest, a.cells = lead :: rest → (∀ c, c ≠ lead.cell → t.drive c = s.drive c) ∧
          t.drive lead.cell = { s.drive lead.cell with
            code := if s.mayDrive lead.cell then leadCode a.baseCode next else 0 }))

/-! ## Faults and rails (spec chapter 6, R37 to R41) -/

/-- The fault path: the lease stops at once into the state its policy names with FAULT(kind), is marked when its rail was lost, has its event posted
and hands a fault notice; one rescan follows if anything was given back (R113, R114). -/
def Obligations.FaultPathStopsByPolicy : Prop :=
  ∀ (s : State) (k : Fin 32) (l : Lease) (a : Allocation) (kind : FaultKind), s.lease? k = some l → l.alloc = some a →
    let marked (t : State) := if kind = .railLost then t.markRailLost k else t
    (l.policy = .suspend → s.faultPath k kind =
      ((((marked (s.suspendHolding k (.fault kind))).postLease k .suspended).handPool (.fault l.terminal kind false)).rescanIf
        (decide (a.leavingCells ≠ [])))) ∧
    (l.policy = .close → s.faultPath k kind =
      ((((marked (s.closeHolding k (.fault kind))).postLease k .closed).handPool (.fault l.terminal kind true)).rescan)) ∧
    s.markRailLost k = s.putLease k { l with railLost := true }

/-- Rail-good seen high completes a wake into ON with a bank-on notice, or past ON when no demand is left, or tells the Self-Test Unit. Seen low, or the
wake timer run out, it is rail loss in the states that watch for it: the bank is FAULTED with codes 0 and BANK_FAULT raised, its
leases are handled in slot order by their states (at seat S, when enabled, BANK_FAULT is latched and its acknowledged mark cleared), its self-test ends with the cell under test INCOMPLETE and the others FREE (R146), and one
rescan follows if anything was given back (R63). In every other state an edge only notes the level, and WAKE_TIMEOUT has no effect (log 2:
the model's choice); a WAKE_TIMEOUT is taken as told (log 5) (R36 to R41, R63, R113, R114, R116 to R118, R146). -/
def Obligations.RailGoodAndRailLoss : Prop :=
  (∀ (s : State) (b : Fin 4),
    let s1 := s.settle
    let e := s1.bank b
    let seen (v : Bool) (st : BankState) := s1.setBank b { e with railGood := v, state := st }
    (∀ w, e.state = .waking w →
      (e.driving + e.claims ≠ 0 → exec (.railGoodRise b) s = .next { seen true .on with
        engine := { s1.engine with bankOnNotices := s1.engine.bankOnNotices ++ [b] } }.driveOutputs) ∧
      (e.driving + e.claims = 0 → exec (.railGoodRise b) s =
        .next (seen true (if e.lingerTime = 0 then .off else .linger e.lingerTime 0)).driveOutputs) ∧
      exec (.railGoodFall b) s = .next (seen false e.state).driveOutputs ∧
      exec (.wakeTimeout b) s = .next (s1.railLoss b).driveOutputs) ∧
    (∀ w, e.state = .testing (some w) →
      exec (.railGoodRise b) s = .next ((seen true (.testing none)).railUpNotice b).driveOutputs ∧
      exec (.railGoodFall b) s = .next (seen false e.state).driveOutputs ∧
      exec (.wakeTimeout b) s = .next (s1.railLoss b).driveOutputs) ∧
    (e.state = .on ∨ (∃ n u, e.state = .linger n u) ∨ e.state = .testing none →
      exec (.railGoodRise b) s = .next (seen true e.state).driveOutputs ∧
      exec (.railGoodFall b) s = .next ((seen false e.state).railLoss b).driveOutputs ∧
      exec (.wakeTimeout b) s = .next s1.driveOutputs) ∧
    (e.state = .off ∨ e.state = .disabled ∨ e.state = .faulted →
      exec (.railGoodRise b) s = .next (seen true e.state).driveOutputs ∧
      exec (.railGoodFall b) s = .next (seen false e.state).driveOutputs ∧
      exec (.wakeTimeout b) s = .next s1.driveOutputs)) ∧
  (∀ (s : State) (b : Fin 4),
    let faulted := ((s.setBank b { s.bank b with state := .faulted }).zeroCodes (cellsOf b)).raiseLevel .s .bankFault
    let trigger := (s.leasesOn b).any s.railLossGivesBack || (s.bank b).state.isTesting
    s.railLoss b = (((s.leasesOn b).foldl (fun s k => s.railLossLease k) faulted).loseTest b).rescanIf trigger ∧
    s.rescanIf true = s.rescan ∧ s.rescanIf false = s ∧ ((s.bank b).state.isTesting = true ↔ ∃ w, (s.bank b).state = .testing w) ∧
    (∀ c, (bankOf c).val = c.val / 6 ∧ (c ∈ cellsOf b ↔ c.val / 6 = b.val)) ∧
    (∀ u : State, let v := u.zeroCodes (cellsOf b)
      v = { u with cellArray := v.cellArray } ∧
      ∀ c, v.drive c = if bankOf c = b then { u.drive c with code := 0 } else u.drive c) ∧
    (∀ u : State, let e := u.seat .s
      u.raiseLevel .s .bankFault =
        if e.enabled then u.setSeat .s { e with latched := e.latched ||| 0x0040#16, acked := e.acked &&& ~~~0x0040#16 } else u) ∧
    (∀ k, k ∈ s.leasesOn b ↔ ∃ l a, s.lease? k = some l ∧ l.alloc = some a ∧ a.bank = b) ∧
    (s.leasesOn b).Pairwise (· < ·) ∧
    ((s.railLoss b).bank b).state = .faulted ∧ ∀ c, bankOf c = b → ((s.railLoss b).drive c).code = 0) ∧
  (∀ (s : State) (b : Fin 4),
    ((∀ r, s.selfTest = some r → r.bank ≠ b) → s.loseTest b = s) ∧
    ∀ r, s.selfTest = some r → r.bank = b →
      let u := s.loseTest b
      let e := s.seat .s
      let isUnder (c : Fin 24) := ∃ step, r.current = some step ∧ step.cell = c
      u = { s with
        allocator := { s.allocator with cells := u.allocator.cells }, cellArray := u.cellArray
        seatCtl := { s.seatCtl with seats := u.seatCtl.seats }, selfTest := none } ∧
      (∀ y, y ≠ .s → u.seat y = s.seat y) ∧
      u.seat .s = (if e.enabled then { e with latched := e.latched ||| 0x0080#16 } else e) ∧
      ∀ c, (isUnder c → u.drive c = { s.drive c with code := 0 } ∧ (u.cell c).lastResult = .incomplete) ∧
        (¬isUnder c → u.drive c = s.drive c ∧ (u.cell c).lastResult = (s.cell c).lastResult) ∧
        (u.cell c).route = (s.cell c).route ∧
        (u.cell c).state = if c ∈ r.cells ∧ (s.cell c).state = .testing then .free else (s.cell c).state) ∧
  (∀ (s : State) (n : PoolNotice), s.handPool n = { s with pool := { s.pool with notices := s.pool.notices ++ [n] } }) ∧
  ∀ (s : State) (k : Fin 32) (l : Lease), s.lease? k = some l →
    let stopsByFault := (∃ ph, l.state = .starting ph) ∨ l.state = .verifying ∨ (∃ st u, l.state = .active st u)
    let leaving := ∃ a e, l.alloc = some a ∧ e ∈ a.cells ∧ e.leaving = true
    (s.railLossGivesBack k = true ↔ (stopsByFault ∧ (l.policy = .close ∨ leaving)) ∨ (∃ why, l.state = .rampdown (.closed why)) ∨
      ((∃ why, l.state = .rampdown (.suspended why)) ∧ leaving)) ∧
    (stopsByFault → l.policy = .suspend → s.railLossLease k =
      (((s.suspendHolding k (.fault .railLost)).markRailLost k).postLease k .suspended).handPool
        (.fault l.terminal .railLost false)) ∧
    (stopsByFault → l.policy = .close → s.railLossLease k =
      (((s.closeHolding k (.fault .railLost)).markRailLost k).postLease k .closed).handPool
        (.fault l.terminal .railLost true)) ∧
    s.markRailLost k = s.putLease k { l with railLost := true } ∧
    (∀ why, l.state = .rampdown (.suspended why) →
      s.railLossLease k = ((s.suspendHolding k why).markRailLost k).postLease k .suspended) ∧
    (∀ why, l.state = .rampdown (.closed why) →
      s.railLossLease k = ((s.closeHolding k why).markRailLost k).postLease k .closed) ∧
    (∀ why, l.state = .suspended why → s.railLossLease k = s.putLease k { l with railLost := true }) ∧
    ((∃ n u, l.state = .waiting n u) ∨ (∃ why, l.state = .closed why) → s.railLossLease k = s)

/-! ## Timers, expiries and notices -/

/-- A further whole second lowers a duration in ACTIVE, a wait, an ARMED keepalive and a linger by one in RUN, and none of them in HOLD. The second
that brings one of them to 0 and its end are one act, and the row of the second and the row of the expiry both name it (log 21: the
model's choice): a duration ramps the lease down as EXPIRED, a wait hands a notice, a keepalive lapses the seat and hands its policy, and a
linger ends in OFF (R39, R64, R65, R77, R79, R133, R135). An expiry row before the last second, a row whose timer does not run, a row that names
an empty slot, and either row in HOLD have no effect (log 2: the model's choice). -/
def Obligations.SecondsCountAndExpiriesAct : Prop :=
  ∀ s : State,
    let s1 := s.settle
    let idle (i : Instr) := exec i s = .next s1.driveOutputs
    (s1.held = true → ∀ (k : Fin 32) (x : Seat) (b : Fin 4),
      ∀ i ∈ [Instr.durationSecond k, .durationExpiry k, .waitSecond k, .waitTimerExpiry k, .keepaliveSecond x, .keepaliveExpiry x,
        .lingerSecond b, .lingerExpiry b], idle i) ∧
    (∀ k : Fin 32, s1.lease? k = none →
      ∀ i ∈ [Instr.durationSecond k, .durationExpiry k, .waitSecond k, .waitTimerExpiry k], idle i) ∧
    (s1.held = false → ∀ (k : Fin 32) (l : Lease), s1.lease? k = some l →
      (∀ st u d, l.state = .active st u → l.duration = some d →
        (2 ≤ d.remaining → idle (.durationExpiry k) ∧ exec (.durationSecond k) s = .next (s1.putLease k { l with
          state := .active st 0, duration := some { d with remaining := d.remaining - 1 } }).driveOutputs) ∧
        (d.remaining ≤ 1 → ∀ i ∈ [Instr.durationSecond k, .durationExpiry k], exec i s =
          .next ((s1.putLease k { l with duration := some { d with remaining := 0 } }).enterRampdown k
            (.closed .expired)).driveOutputs)) ∧
      (l.duration = none ∨ (∀ st u, l.state ≠ .active st u) → idle (.durationSecond k) ∧ idle (.durationExpiry k)) ∧
      (∀ n u, l.state = .waiting (n + 2) u → idle (.waitTimerExpiry k) ∧
        exec (.waitSecond k) s = .next (s1.putLease k { l with state := .waiting (n + 1) 0 }).driveOutputs) ∧
      (∀ u, l.state = .waiting 1 u → ∀ i ∈ [Instr.waitSecond k, .waitTimerExpiry k],
        let t := s1.putLease k { l with state := .waiting 0 0 }
        exec i s = .next { t with allocator := { t.allocator with
          waitExpiryNotices := t.allocator.waitExpiryNotices ++ [s1.handleAt k] } }.driveOutputs) ∧
      ((∃ u, l.state = .waiting 0 u) ∨ (∀ n u, l.state ≠ .waiting n u) → idle (.waitSecond k) ∧ idle (.waitTimerExpiry k))) ∧
    (s1.held = false → ∀ x : Seat,
      let e := s1.seat x
      (∀ n u, e.keepalive = .armed (n + 2) u → idle (.keepaliveExpiry x) ∧
        exec (.keepaliveSecond x) s = .next (s1.setSeat x { e with keepalive := .armed (n + 1) 0 }).driveOutputs) ∧
      (∀ n u policy, e.keepalive = .armed n u → n ≤ 1 → e.enabled = true → e.policy = some policy →
        ∀ i ∈ [Instr.keepaliveSecond x, .keepaliveExpiry x], exec i s = .next { s1.setSeat x { e with
            keepalive := .lapsed, latched := e.latched ||| 0x0010#16, acked := e.acked &&& ~~~0x0010#16 } with
          engine := { s1.engine with lapseNotices := s1.engine.lapseNotices ++ [(⟨x, policy⟩ : LapseNotice)] } }.driveOutputs) ∧
      ((∀ n u, e.keepalive ≠ .armed n u) → idle (.keepaliveSecond x) ∧ idle (.keepaliveExpiry x))) ∧
    (s1.held = false → ∀ b : Fin 4,
      let e := s1.bank b
      (∀ n u, e.state = .linger (n + 2) u → idle (.lingerExpiry b) ∧
        exec (.lingerSecond b) s = .next (s1.setBank b { e with state := .linger (n + 1) 0 }).driveOutputs) ∧
      (∀ n u, e.state = .linger n u → n ≤ 1 → ∀ i ∈ [Instr.lingerSecond b, .lingerExpiry b],
        exec i s = .next (s1.setBank b { e with state := .off }).driveOutputs) ∧
      ((∀ n u, e.state ≠ .linger n u) → idle (.lingerSecond b) ∧ idle (.lingerExpiry b)))

/-- The Lease Engine and the Allocator take what was handed to them: a bank-on notice moves the leases in STARTING–WAKE of a bank in ON to their start
ramps, in slot order; a wait-expiry notice closes a lease still on the wait list; a lapse notice is carried out on its seat's records
under the policy it carries, with one rescan at the end if a record was closed at once from a holding state, or suspended at once with a leaving
cell (R65, R70, R136; the oldest of the bank, handle or seat is taken, log 17). A row for a
notice that was not handed has no effect (log 2: the model's choice). -/
def Obligations.NoticesAreTakenOnce : Prop :=
  (∀ (s : State) (b : Fin 4),
    let s1 := s.settle
    (b ∈ s1.engine.bankOnNotices →
      let s2 : State := { s1 with engine := { s1.engine with bankOnNotices := s1.engine.bankOnNotices.erase b } }
      exec (.bankOnNotice b) s = .next ((List.finRange 32).foldl (fun s k => s.bankOnLease b k) s2).driveOutputs) ∧
    (b ∉ s1.engine.bankOnNotices → exec (.bankOnNotice b) s = .next s1.driveOutputs)) ∧
  (∀ (s : State) (b : Fin 4) (k : Fin 32) (l : Lease) (a : Allocation), s.lease? k = some l → l.alloc = some a →
    let e := s.bank b
    (l.state = .starting .wake → a.bank = b → e.state = .on → s.bankOnLease b k =
      ((s.putLease k { l with state := .starting .ramp }).setBank b
        { e with claims := e.claims - 1, driving := e.driving + 1 }).startRamp k l.target Allocation.targetCodes) ∧
    (l.state ≠ .starting .wake ∨ a.bank ≠ b ∨ e.state ≠ .on → s.bankOnLease b k = s)) ∧
  (∀ (s : State) (h : Handle),
    let s1 := s.settle
    let s2 : State := { s1 with allocator := { s1.allocator with waitExpiryNotices := s1.allocator.waitExpiryNotices.erase h } }
    (h ∉ s1.allocator.waitExpiryNotices → exec (.waitExpiryNotice h) s = .next s1.driveOutputs) ∧
    (h ∈ s1.allocator.waitExpiryNotices →
      ((∀ k l, s1.resolve h = some (k, l) → k ∉ s1.allocator.waitList) →
        exec (.waitExpiryNotice h) s = .next s2.driveOutputs) ∧
      ∀ k l, s1.resolve h = some (k, l) → k ∈ s1.allocator.waitList →
        let t := s2.putLease k { l with state := .closed .waitExpired }
        exec (.waitExpiryNotice h) s = .next ({ t with allocator := { t.allocator with
          waitList := t.allocator.waitList.filter (· != k) } }.postLease k .closed).driveOutputs)) ∧
  (∀ (s : State) (x : Seat),
    let s1 := s.settle
    ((∀ n ∈ s1.engine.lapseNotices, n.seat ≠ x) → exec (.lapseNotice x) s = .next s1.driveOutputs) ∧
    ∀ before n after, s1.engine.lapseNotices = before ++ n :: after → (∀ m ∈ before, m.seat ≠ x) → n.seat = x →
      let s2 : State := { s1 with engine := { s1.engine with lapseNotices := before ++ after } }
      let ks := (List.finRange 32).filter fun k => (s1.lease? k).any fun l => l.owner == x
      exec (.lapseNotice x) s = .next ((ks.foldl (fun s k => s.lapseLease n.policy k) s2).rescanIf
        (ks.any (s1.lapseGivesBack n.policy))).driveOutputs) ∧
  ∀ (s : State) (k : Fin 32) (l : Lease), s.lease? k = some l →
    let closed := (s.closeHolding k .lapsed).postLease k .closed
    let suspended := (s.suspendHolding k .lapsed).postLease k .suspended
    let left := s.putLease k { l with state := .closed .lapsed }
    (∀ n u p, l.state = .waiting n u → s.lapseLease p k = { left with
      allocator := { s.allocator with waitList := s.allocator.waitList.filter (· != k) } }.postLease k .closed) ∧
    (l.state = .starting .wake → s.lapseLease .suspendAll k = suspended ∧ s.lapseLease .closeAll k = closed) ∧
    (l.state = .starting .ramp ∨ l.state = .verifying ∨ (∃ st u, l.state = .active st u) →
      s.lapseLease .suspendAll k = suspended ∧ s.lapseLease .closeAll k = s.enterRampdown k (.closed .lapsed)) ∧
    (∀ why, l.state = .rampdown (.suspended why) → s.lapseLease .suspendAll k = s ∧
      s.lapseLease .closeAll k = s.putLease k { l with state := .rampdown (.closed .lapsed) }) ∧
    (∀ why, l.state = .suspended why → s.lapseLease .suspendAll k = s ∧ s.lapseLease .closeAll k = closed) ∧
    ((∃ why, l.state = .rampdown (.closed why) ∨ l.state = .closed why) → ∀ p, s.lapseLease p k = s) ∧
    (s.lapseGivesBack .suspendAll k = true ↔
      (l.state = .starting .wake ∨ l.state = .starting .ramp ∨ l.state = .verifying ∨ ∃ st u, l.state = .active st u) ∧
        ∃ a e, l.alloc = some a ∧ e ∈ a.cells ∧ e.leaving = true) ∧
    (s.lapseGivesBack .closeAll k = true ↔ l.state = .starting .wake ∨ ∃ why, l.state = .suspended why)

/-! ## Self-test (spec chapter 8) -/

/-- CELL TEST: form, bank, busy and empty checks in order; an accepted one puts the cells under test and the bank into TESTING, and starts the first cell
when the rail is up, in the same act when rail-good is already high (R37 and R41 read together, log 8). TEST ABORT stops the cell under test
or, before the rail is up, asks for the abort (R140 to R142, R145). -/
def Obligations.CellTestAndTestAbort : Prop :=
  (∀ (x : Seat) (bank option : Byte) (s : State), Accepted (.cellTest x bank option) s →
    let s1 := s.taken
    let i := Instr.cellTest x bank option
    (4 ≤ bank.toNat ∨ 2 ≤ option.toNat → exec i s = .next (s1.respond i x .badParam [])) ∧
    ∀ (b : Fin 4) (o : TestOption), bank.toNat = b.val → option.toNat = (match o with | .retain => 0 | .retestAll => 1) →
      let e := s1.bank b
      let under (c : Fin 24) := bankOf c = b ∧
        ((s1.cell c).state = .free ∨ (o = .retestAll ∧ ∃ w, (s1.cell c).state = .outOfService w))
      let unavailable := e.state = .disabled ∨ e.state = .faulted
      let busy := s1.selfTest ≠ none ∨ ∃ c h, bankOf c = b ∧ (s1.cell c).state = .allotted h
      (∀ c, c ∈ s1.testCells b o ↔ under c) ∧ (s1.testCells b o).Pairwise (· < ·) ∧
      (unavailable → exec i s = .next (s1.respond i x .bankUnavailable [])) ∧
      (¬unavailable → busy → exec i s = .next (s1.respond i x .bankBusy [])) ∧
      (¬unavailable → ¬busy → (∀ c, ¬under c) → exec i s = .next (s1.respond i x .wrongState [])) ∧
      (¬unavailable → ¬busy → ∀ c, under c → ∃ cells : Vector CellEntry 24,
        (∀ d, under d → cells[d] = { s1.cell d with state := .testing }) ∧ (∀ d, ¬under d → cells[d] = s1.cell d) ∧
        let record : TestRecord := ⟨b, o, s1.testCells b o, none, false⟩
        let begun (st : BankState) : State := { s1.setBank b { e with state := st } with
          allocator := { s1.allocator with cells := cells }, selfTest := some record }
        (e.state = .off → e.railGood = false → exec i s = .next ((begun (.testing (some 1600))).respond i x .ok [])) ∧
        (e.state = .off → e.railGood = true → exec i s = .next (((begun (.testing none)).railUpNotice b).respond i x .ok [])) ∧
        (∀ w, e.state = .waking w → exec i s = .next ((begun (.testing (some w))).respond i x .ok [])) ∧
        ∀ n u, e.state = .linger n u → exec i s = .next (((begun (.testing none)).railUpNotice b).respond i x .ok []))) ∧
  (∀ (x : Seat) (s : State), Accepted (.testAbort x) s →
    let s1 := s.taken
    let i := Instr.testAbort x
    (s1.selfTest = none → exec i s = .next (s1.respond i x .wrongState [])) ∧
    ∀ t, s1.selfTest = some t →
      (t.current = none → exec i s = .next ({ s1 with selfTest := some { t with abort := true } }.respond i x .ok [])) ∧
      (t.current ≠ none → exec i s = .next ((s1.abortTest t).respond i x .ok []))) ∧
  (∀ (s : State) (b : Fin 4) (t : TestRecord), s.selfTest = some t → t.bank = b →
    (∀ d, d ≠ b → s.railUpNotice d = s) ∧
    (t.abort = true → s.railUpNotice b = s.abortTest t) ∧
    ∀ c cs, t.abort = false → t.cells = c :: cs → s.railUpNotice b = s.startTestStep t c .low .gain) ∧
  (∀ (s : State) (b : Fin 4), s.selfTest = none → s.railUpNotice b = s) ∧
  ∀ (s : State) (t : TestRecord),
    let isUnder (c : Fin 24) := ∃ step, t.current = some step ∧ step.cell = c
    ∃ u : State, s.abortTest t = u.finishTest t.bank ∧
      u = { s with allocator := { s.allocator with cells := u.allocator.cells }, cellArray := u.cellArray } ∧
      ∀ c, (isUnder c → u.drive c = { s.drive c with code := 0 } ∧ (u.cell c).lastResult = .incomplete) ∧
        (¬isUnder c → u.drive c = s.drive c ∧ (u.cell c).lastResult = (s.cell c).lastResult) ∧
        (u.cell c).route = (s.cell c).route ∧
        (u.cell c).state = if c ∈ t.cells ∧ (s.cell c).state = .testing then .free else (s.cell c).state

/-- A test step's completion judges the load current against the windows of R143. A pass goes on to the next check, the ninth or a failure ends the
cell's test with its outcome, and the next cell or the end of the test follows: bank to LINGER or OFF, TEST_DONE, one rescan (R143, R144;
the current in nA is the model's choice, log 14; the output stage is off for LEAK, log 30). TEST_STEP_COMPLETE is taken as told, whatever time
is left (log 5), and with no step in progress it has no effect (log 2: the model's choices). -/
def Obligations.TestStepsAreJudgedAndEnd : Prop :=
  (∀ (s : State) (nano : Nat) (t : TestRecord) (step : TestStep),
    let s1 := s.settle
    s1.selfTest = some t → t.current = some step →
    let good := checkPasses step.check step.range (loadMicroamps nano) = true
    let ends (st : CellState) (r : TestResult) := exec (.testStepComplete nano) s =
      .next (s1.endCellTest t step.cell st r).driveOutputs
    (good → ∀ r chk, ((step.range, step.check), (r, chk)) ∈
      [((Range.low, Check.gain), (Range.low, Check.offset)), ((.low, .offset), (.low, .leak)), ((.low, .leak), (.mid, .gain)),
        ((.mid, .gain), (.mid, .offset)), ((.mid, .offset), (.mid, .leak)), ((.mid, .leak), (.high, .gain)),
        ((.high, .gain), (.high, .offset)), ((.high, .offset), (.high, .leak))] →
      exec (.testStepComplete nano) s = .next (s1.startTestStep t step.cell r chk).driveOutputs) ∧
    (good → step.range = .high → step.check = .leak → ends .free .pass) ∧
    (¬good → ends (.outOfService .test) (match step.check with | .gain => .failGain | .offset => .failOffset | .leak => .failLeak))) ∧
  (∀ (s : State) (nano : Nat), (∀ t, s.settle.selfTest = some t → t.current = none) →
    exec (.testStepComplete nano) s = .next s.settle.driveOutputs) ∧
  (∀ (s : State) (t : TestRecord) (c : Fin 24) (st : CellState) (r : TestResult) (before after : List (Fin 24)),
    t.cells = before ++ c :: after → c ∉ before →
    let u := (s.setDrive c { s.drive c with code := 0 }).setCell c { s.cell c with state := st, lastResult := r }
    (∀ d ds, after = d :: ds → s.endCellTest t c st r = u.startTestStep t d .low .gain) ∧
    (after = [] → s.endCellTest t c st r = u.finishTest t.bank)) ∧
  (∀ (s : State) (b : Fin 4),
    let e := s.bank b
    let idle : State := { s with selfTest := none }
    s.finishTest b = ((idle.setBank b { e with
      state := if e.lingerTime = 0 then .off else .linger e.lingerTime 0 }).postEdge .s .testDone).rescan) ∧
  (∀ (s : State) (t : TestRecord) (c : Fin 24) (r : Range) (chk : Check),
    let u : State := { s with selfTest := some { t with current := some (⟨c, r, chk, decide (chk ≠ .leak), 64⟩ : TestStep) } }
    s.startTestStep t c r chk = u.setDrive c { code := if chk = .gain ∧ s.mayDrive c = true then 2048 else 0, range := r }) ∧
  (∀ r current, checkPasses .gain r current = true ↔ (match r with
      | .low => 2376 ≤ current ∧ current ≤ 2625
      | .mid => 11878 ≤ current ∧ current ≤ 13128
      | .high => 47512 ≤ current ∧ current ≤ 52512)) ∧
  (∀ r current, checkPasses .offset r current = true ↔ current < (match r with | .low => 50 | .mid => 250 | .high => 1000)) ∧
  (∀ r current, checkPasses .leak r current = true ↔ current < (match r with | .low => 10 | .mid => 50 | .high => 200)) ∧
  ∀ nano, 1000 * loadMicroamps nano ≤ nano + 500 ∧ nano + 500 < 1000 * (loadMicroamps nano + 1)

/-! ## Pool hold and trip points (spec chapter 9) -/

/-- HOLD takes the pool from RUN into HOLD with cause REQUEST, raises HOLD at every enabled seat and sets the acknowledgement flag when given; RUN ends
the hold, whatever its cause, with one rescan. In the other state each keeps the pool as it is (R39, R149, R150, R154). -/
def Obligations.HoldAndRunMoveThePool : Prop :=
  (∀ (x : Seat) (ack : Option Byte) (s : State), Accepted (.hold x ack) s →
    let s1 := s.taken
    let i := Instr.hold x ack
    ((∃ v, ack = some v ∧ 2 ≤ v.toNat) → exec i s = .next (s1.respond i x .badParam [])) ∧
    ∀ flag, (ack = none ∧ flag = s1.seatCtl.ackInHold) ∨ (ack = some 0#8 ∧ flag = false) ∨ (ack = some 1#8 ∧ flag = true) →
      let flagged (t : State) : State := { t with seatCtl := { t.seatCtl with ackInHold := flag } }
      (s1.held = true → exec i s = .next ((flagged s1).respond i x .ok [])) ∧
      (s1.held = false → exec i s = .next ((flagged (s1.enterHold .request)).respond i x .ok []))) ∧
  (∀ (x : Seat) (s : State), Accepted (.run x) s →
    let s1 := s.taken
    let i := Instr.run x
    (s1.held = false → exec i s = .next (s1.respond i x .ok [])) ∧
    (s1.held = true → exec i s =
      .next (({ s1 with pool := { s1.pool with state := .run } }.endHold).rescan.respond i x .ok []))) ∧
  (∀ s : State, s.held = true ↔ s.pool.state ≠ .run) ∧
  (∀ (s : State) (c : HoldCause), (s.held = true → s.enterHold c = s) ∧
    (s.held = false →
      let t := s.enterHold c
      t.pool = { s.pool with state := .hold c } ∧ t.engine = s.engine ∧ t.allocator = s.allocator ∧
      t.cellArray = s.cellArray ∧ t.meas = s.meas ∧ t.selfTest = s.selfTest ∧ t.port = s.port ∧
      t.seatCtl.ackInHold = s.seatCtl.ackInHold ∧ t.seatCtl.attnLow = s.seatCtl.attnLow ∧ t.straps = s.straps ∧
      t.pending = s.pending ∧
      (∀ y, t.seat y = if (s.seat y).enabled then
        { s.seat y with latched := (s.seat y).latched ||| 0x0020#16, acked := (s.seat y).acked &&& ~~~0x0020#16 }
        else s.seat y) ∧
      ∀ b, t.bank b = match (s.bank b).state with
        | .linger n _ => { s.bank b with state := .linger n 0 }
        | _ => s.bank b)) ∧
  ∀ s : State,
    let t := s.endHold
    t = { s with seatCtl := { s.seatCtl with seats := t.seatCtl.seats } } ∧
    ∀ y, t.seat y = if (s.seat y).acked &&& 0x0020#16 ≠ 0#16 then
      { s.seat y with latched := (s.seat y).latched &&& ~~~0x0020#16, acked := (s.seat y).acked &&& ~~~0x0020#16 }
      else s.seat y

/-- TRIP SET rewrites an entry and clears its fired mark; TRIP FIRE fires one. Pool Control takes its oldest fault notice, or the applied scan result at
the head of what was handed, and fires the entries that match in ascending number: fired, disarmed, HOLD with cause TRIP n from RUN,
TRIP posted to seat S (R115, R155 to R157). Which notice each row takes is log 17, and a row with no notice to take has no effect (log 2: the
model's choices). -/
def Obligations.TripEntriesMatchAndFire : Prop :=
  (∀ p : TripSetParams,
    ((tripSetRequest? p).isSome = true ↔ p.entry.toNat ≤ 3 ∧ p.terminal.toNat ≤ 15 ∧ p.condition.toNat ≤ 2 ∧
      p.threshold.toNat ≤ 700000 ∧ p.armed.toNat ≤ 1) ∧
    ∀ n e, tripSetRequest? p = some (n, e) → n.val = p.entry.toNat ∧ e.terminal.val = p.terminal.toNat ∧
      p.condition.toNat = (match e.condition with | .fault => 0 | .close => 1 | .over => 2) ∧
      e.threshold = p.threshold.toNat ∧ e.armed = decide (p.armed.toNat = 1) ∧ e.fired = false) ∧
  (∀ (x : Seat) (p : TripSetParams) (s : State), Accepted (.tripSet x p) s →
    let s1 := s.taken
    let i := Instr.tripSet x p
    (tripSetRequest? p = none → exec i s = .next (s1.respond i x .badParam [])) ∧
    ∀ n e, tripSetRequest? p = some (n, e) →
      exec i s = .next ({ s1 with pool := { s1.pool with trips := s1.pool.trips.set n e } }.respond i x .ok [])) ∧
  (∀ (x : Seat) (entry : Byte) (s : State), Accepted (.tripFire x entry) s →
    let s1 := s.taken
    let i := Instr.tripFire x entry
    (4 ≤ entry.toNat → exec i s = .next (s1.respond i x .badParam [])) ∧
    ∀ n : Fin 4, entry.toNat = n.val → exec i s = .next ((s1.fireTrip n).respond i x .ok [])) ∧
  (∀ (s : State) (n : Fin 4),
    let e := s.pool.trips[n]
    let marked : State := { s with pool := { s.pool with trips := s.pool.trips.set n { e with armed := false, fired := true } } }
    s.fireTrip n = (marked.enterHold (.trip n)).postEdge .s .trip) ∧
  (∀ s : State,
    let s1 := s.settle
    ((∀ n ∈ s1.pool.notices, n.isFault = false) → exec .faultNotice s = .next s1.driveOutputs) ∧
    (∀ before n after, s1.pool.notices = before ++ n :: after → (∀ m ∈ before, m.isFault = false) → n.isFault = true →
      n ∉ before →
      exec .faultNotice s =
        .next ({ s1 with pool := { s1.pool with notices := before ++ after } }.matchNotice n).driveOutputs) ∧
    (∀ m v rest, s1.pool.notices = .scan m v :: rest → exec .scanResultMatch s =
      .next ({ s1 with pool := { s1.pool with notices := rest } }.matchNotice (.scan m v)).driveOutputs) ∧
    ((∀ m v rest, s1.pool.notices ≠ .scan m v :: rest) → exec .scanResultMatch s = .next s1.driveOutputs)) ∧
  (∀ n : PoolNotice, n.isFault = true ↔ ∃ m kind closed, n = .fault m kind closed) ∧
  (∀ (s : State) (n : PoolNotice), s.matchNotice n =
    (List.finRange 4).foldl (fun s j => if (s.pool.trips[j]).matched n then s.fireTrip j else s) s) ∧
  ∀ (e : TripEntry) (m : Fin 16) (kind : FaultKind) (closed : Bool) (current : Nat),
    (e.matched (.fault m kind closed) = true ↔ e.armed = true ∧ e.terminal = m ∧
      (e.condition = .fault ∨ (e.condition = .close ∧ closed = true))) ∧
    (e.matched (.scan m current) = true ↔ e.armed = true ∧ e.terminal = m ∧ e.condition = .over ∧ e.threshold < current)

end
end

