-- ==== Sys2Proof/Laws/State.lean ====
section
/-! SUPPORT. One lemma per field per update: what each write to a table leaves as it was, and what a read finds after a write. -/

namespace Sys2Proof.Machine.State

variable (s : State)

/-! ## Blocks a write does not touch -/

@[simp] theorem setSlot_port (k : Fin 32) (v : Slot) : (s.setSlot k v).port = s.port := rfl
@[simp] theorem setSlot_seatCtl (k : Fin 32) (v : Slot) : (s.setSlot k v).seatCtl = s.seatCtl := rfl
@[simp] theorem setSlot_allocator (k : Fin 32) (v : Slot) : (s.setSlot k v).allocator = s.allocator := rfl
@[simp] theorem setSlot_cellArray (k : Fin 32) (v : Slot) : (s.setSlot k v).cellArray = s.cellArray := rfl
@[simp] theorem setSlot_banks (k : Fin 32) (v : Slot) : (s.setSlot k v).banks = s.banks := rfl
@[simp] theorem setSlot_meas (k : Fin 32) (v : Slot) : (s.setSlot k v).meas = s.meas := rfl
@[simp] theorem setSlot_pool (k : Fin 32) (v : Slot) : (s.setSlot k v).pool = s.pool := rfl
@[simp] theorem setSlot_selfTest (k : Fin 32) (v : Slot) : (s.setSlot k v).selfTest = s.selfTest := rfl
@[simp] theorem setSlot_straps (k : Fin 32) (v : Slot) : (s.setSlot k v).straps = s.straps := rfl
@[simp] theorem setSlot_pending (k : Fin 32) (v : Slot) : (s.setSlot k v).pending = s.pending := rfl

@[simp] theorem setSeat_port (x : Seat) (v : SeatEntry) : (s.setSeat x v).port = s.port := rfl
@[simp] theorem setSeat_engine (x : Seat) (v : SeatEntry) : (s.setSeat x v).engine = s.engine := rfl
@[simp] theorem setSeat_allocator (x : Seat) (v : SeatEntry) : (s.setSeat x v).allocator = s.allocator := rfl
@[simp] theorem setSeat_cellArray (x : Seat) (v : SeatEntry) : (s.setSeat x v).cellArray = s.cellArray := rfl
@[simp] theorem setSeat_banks (x : Seat) (v : SeatEntry) : (s.setSeat x v).banks = s.banks := rfl
@[simp] theorem setSeat_meas (x : Seat) (v : SeatEntry) : (s.setSeat x v).meas = s.meas := rfl
@[simp] theorem setSeat_pool (x : Seat) (v : SeatEntry) : (s.setSeat x v).pool = s.pool := rfl
@[simp] theorem setSeat_selfTest (x : Seat) (v : SeatEntry) : (s.setSeat x v).selfTest = s.selfTest := rfl
@[simp] theorem setSeat_straps (x : Seat) (v : SeatEntry) : (s.setSeat x v).straps = s.straps := rfl
@[simp] theorem setSeat_pending (x : Seat) (v : SeatEntry) : (s.setSeat x v).pending = s.pending := rfl

@[simp] theorem setPage_seatCtl (x : Seat) (v : Page) : (s.setPage x v).seatCtl = s.seatCtl := rfl
@[simp] theorem setPage_engine (x : Seat) (v : Page) : (s.setPage x v).engine = s.engine := rfl
@[simp] theorem setPage_allocator (x : Seat) (v : Page) : (s.setPage x v).allocator = s.allocator := rfl
@[simp] theorem setPage_cellArray (x : Seat) (v : Page) : (s.setPage x v).cellArray = s.cellArray := rfl
@[simp] theorem setPage_banks (x : Seat) (v : Page) : (s.setPage x v).banks = s.banks := rfl
@[simp] theorem setPage_meas (x : Seat) (v : Page) : (s.setPage x v).meas = s.meas := rfl
@[simp] theorem setPage_pool (x : Seat) (v : Page) : (s.setPage x v).pool = s.pool := rfl
@[simp] theorem setPage_selfTest (x : Seat) (v : Page) : (s.setPage x v).selfTest = s.selfTest := rfl
@[simp] theorem setPage_straps (x : Seat) (v : Page) : (s.setPage x v).straps = s.straps := rfl
@[simp] theorem setPage_pending (x : Seat) (v : Page) : (s.setPage x v).pending = s.pending := rfl

@[simp] theorem setBusy_seatCtl (x : Seat) (v : Bool) : (s.setBusy x v).seatCtl = s.seatCtl := rfl
@[simp] theorem setBusy_engine (x : Seat) (v : Bool) : (s.setBusy x v).engine = s.engine := rfl
@[simp] theorem setBusy_allocator (x : Seat) (v : Bool) : (s.setBusy x v).allocator = s.allocator := rfl
@[simp] theorem setBusy_cellArray (x : Seat) (v : Bool) : (s.setBusy x v).cellArray = s.cellArray := rfl
@[simp] theorem setBusy_banks (x : Seat) (v : Bool) : (s.setBusy x v).banks = s.banks := rfl
@[simp] theorem setBusy_meas (x : Seat) (v : Bool) : (s.setBusy x v).meas = s.meas := rfl
@[simp] theorem setBusy_pool (x : Seat) (v : Bool) : (s.setBusy x v).pool = s.pool := rfl
@[simp] theorem setBusy_selfTest (x : Seat) (v : Bool) : (s.setBusy x v).selfTest = s.selfTest := rfl
@[simp] theorem setBusy_straps (x : Seat) (v : Bool) : (s.setBusy x v).straps = s.straps := rfl
@[simp] theorem setBusy_pending (x : Seat) (v : Bool) : (s.setBusy x v).pending = s.pending := rfl

@[simp] theorem setCell_port (c : Fin 24) (v : CellEntry) : (s.setCell c v).port = s.port := rfl
@[simp] theorem setCell_seatCtl (c : Fin 24) (v : CellEntry) : (s.setCell c v).seatCtl = s.seatCtl := rfl
@[simp] theorem setCell_engine (c : Fin 24) (v : CellEntry) : (s.setCell c v).engine = s.engine := rfl
@[simp] theorem setCell_cellArray (c : Fin 24) (v : CellEntry) : (s.setCell c v).cellArray = s.cellArray := rfl
@[simp] theorem setCell_banks (c : Fin 24) (v : CellEntry) : (s.setCell c v).banks = s.banks := rfl
@[simp] theorem setCell_meas (c : Fin 24) (v : CellEntry) : (s.setCell c v).meas = s.meas := rfl
@[simp] theorem setCell_pool (c : Fin 24) (v : CellEntry) : (s.setCell c v).pool = s.pool := rfl
@[simp] theorem setCell_selfTest (c : Fin 24) (v : CellEntry) : (s.setCell c v).selfTest = s.selfTest := rfl
@[simp] theorem setCell_straps (c : Fin 24) (v : CellEntry) : (s.setCell c v).straps = s.straps := rfl
@[simp] theorem setCell_pending (c : Fin 24) (v : CellEntry) : (s.setCell c v).pending = s.pending := rfl

@[simp] theorem setTerminal_port (t : Fin 16) (v : TerminalEntry) : (s.setTerminal t v).port = s.port := rfl
@[simp] theorem setTerminal_seatCtl (t : Fin 16) (v : TerminalEntry) : (s.setTerminal t v).seatCtl = s.seatCtl := rfl
@[simp] theorem setTerminal_engine (t : Fin 16) (v : TerminalEntry) : (s.setTerminal t v).engine = s.engine := rfl
@[simp] theorem setTerminal_cellArray (t : Fin 16) (v : TerminalEntry) : (s.setTerminal t v).cellArray = s.cellArray := rfl
@[simp] theorem setTerminal_banks (t : Fin 16) (v : TerminalEntry) : (s.setTerminal t v).banks = s.banks := rfl
@[simp] theorem setTerminal_meas (t : Fin 16) (v : TerminalEntry) : (s.setTerminal t v).meas = s.meas := rfl
@[simp] theorem setTerminal_pool (t : Fin 16) (v : TerminalEntry) : (s.setTerminal t v).pool = s.pool := rfl
@[simp] theorem setTerminal_selfTest (t : Fin 16) (v : TerminalEntry) : (s.setTerminal t v).selfTest = s.selfTest := rfl
@[simp] theorem setTerminal_straps (t : Fin 16) (v : TerminalEntry) : (s.setTerminal t v).straps = s.straps := rfl
@[simp] theorem setTerminal_pending (t : Fin 16) (v : TerminalEntry) : (s.setTerminal t v).pending = s.pending := rfl

@[simp] theorem setCommitted_port (b : Fin 4) (v : Nat) : (s.setCommitted b v).port = s.port := rfl
@[simp] theorem setCommitted_seatCtl (b : Fin 4) (v : Nat) : (s.setCommitted b v).seatCtl = s.seatCtl := rfl
@[simp] theorem setCommitted_engine (b : Fin 4) (v : Nat) : (s.setCommitted b v).engine = s.engine := rfl
@[simp] theorem setCommitted_cellArray (b : Fin 4) (v : Nat) : (s.setCommitted b v).cellArray = s.cellArray := rfl
@[simp] theorem setCommitted_banks (b : Fin 4) (v : Nat) : (s.setCommitted b v).banks = s.banks := rfl
@[simp] theorem setCommitted_meas (b : Fin 4) (v : Nat) : (s.setCommitted b v).meas = s.meas := rfl
@[simp] theorem setCommitted_pool (b : Fin 4) (v : Nat) : (s.setCommitted b v).pool = s.pool := rfl
@[simp] theorem setCommitted_selfTest (b : Fin 4) (v : Nat) : (s.setCommitted b v).selfTest = s.selfTest := rfl
@[simp] theorem setCommitted_straps (b : Fin 4) (v : Nat) : (s.setCommitted b v).straps = s.straps := rfl
@[simp] theorem setCommitted_pending (b : Fin 4) (v : Nat) : (s.setCommitted b v).pending = s.pending := rfl

@[simp] theorem setDrive_port (c : Fin 24) (v : CellDrive) : (s.setDrive c v).port = s.port := rfl
@[simp] theorem setDrive_seatCtl (c : Fin 24) (v : CellDrive) : (s.setDrive c v).seatCtl = s.seatCtl := rfl
@[simp] theorem setDrive_engine (c : Fin 24) (v : CellDrive) : (s.setDrive c v).engine = s.engine := rfl
@[simp] theorem setDrive_allocator (c : Fin 24) (v : CellDrive) : (s.setDrive c v).allocator = s.allocator := rfl
@[simp] theorem setDrive_banks (c : Fin 24) (v : CellDrive) : (s.setDrive c v).banks = s.banks := rfl
@[simp] theorem setDrive_meas (c : Fin 24) (v : CellDrive) : (s.setDrive c v).meas = s.meas := rfl
@[simp] theorem setDrive_pool (c : Fin 24) (v : CellDrive) : (s.setDrive c v).pool = s.pool := rfl
@[simp] theorem setDrive_selfTest (c : Fin 24) (v : CellDrive) : (s.setDrive c v).selfTest = s.selfTest := rfl
@[simp] theorem setDrive_straps (c : Fin 24) (v : CellDrive) : (s.setDrive c v).straps = s.straps := rfl
@[simp] theorem setDrive_pending (c : Fin 24) (v : CellDrive) : (s.setDrive c v).pending = s.pending := rfl

@[simp] theorem setBank_port (b : Fin 4) (v : Bank) : (s.setBank b v).port = s.port := rfl
@[simp] theorem setBank_seatCtl (b : Fin 4) (v : Bank) : (s.setBank b v).seatCtl = s.seatCtl := rfl
@[simp] theorem setBank_engine (b : Fin 4) (v : Bank) : (s.setBank b v).engine = s.engine := rfl
@[simp] theorem setBank_allocator (b : Fin 4) (v : Bank) : (s.setBank b v).allocator = s.allocator := rfl
@[simp] theorem setBank_cellArray (b : Fin 4) (v : Bank) : (s.setBank b v).cellArray = s.cellArray := rfl
@[simp] theorem setBank_meas (b : Fin 4) (v : Bank) : (s.setBank b v).meas = s.meas := rfl
@[simp] theorem setBank_pool (b : Fin 4) (v : Bank) : (s.setBank b v).pool = s.pool := rfl
@[simp] theorem setBank_selfTest (b : Fin 4) (v : Bank) : (s.setBank b v).selfTest = s.selfTest := rfl
@[simp] theorem setBank_straps (b : Fin 4) (v : Bank) : (s.setBank b v).straps = s.straps := rfl
@[simp] theorem setBank_pending (b : Fin 4) (v : Bank) : (s.setBank b v).pending = s.pending := rfl

@[simp] theorem setAck_seatCtl (v : Bool) : (s.setAck v).seatCtl = s.seatCtl := rfl
@[simp] theorem setAck_engine (v : Bool) : (s.setAck v).engine = s.engine := rfl
@[simp] theorem setAck_allocator (v : Bool) : (s.setAck v).allocator = s.allocator := rfl
@[simp] theorem setAck_cellArray (v : Bool) : (s.setAck v).cellArray = s.cellArray := rfl
@[simp] theorem setAck_banks (v : Bool) : (s.setAck v).banks = s.banks := rfl
@[simp] theorem setAck_meas (v : Bool) : (s.setAck v).meas = s.meas := rfl
@[simp] theorem setAck_pool (v : Bool) : (s.setAck v).pool = s.pool := rfl
@[simp] theorem setAck_selfTest (v : Bool) : (s.setAck v).selfTest = s.selfTest := rfl
@[simp] theorem setAck_straps (v : Bool) : (s.setAck v).straps = s.straps := rfl
@[simp] theorem setAck_pending (v : Bool) : (s.setAck v).pending = s.pending := rfl

@[simp] theorem setTransaction_seatCtl (v : Transaction) : (s.setTransaction v).seatCtl = s.seatCtl := rfl
@[simp] theorem setTransaction_engine (v : Transaction) : (s.setTransaction v).engine = s.engine := rfl
@[simp] theorem setTransaction_allocator (v : Transaction) : (s.setTransaction v).allocator = s.allocator := rfl
@[simp] theorem setTransaction_cellArray (v : Transaction) : (s.setTransaction v).cellArray = s.cellArray := rfl
@[simp] theorem setTransaction_banks (v : Transaction) : (s.setTransaction v).banks = s.banks := rfl
@[simp] theorem setTransaction_meas (v : Transaction) : (s.setTransaction v).meas = s.meas := rfl
@[simp] theorem setTransaction_pool (v : Transaction) : (s.setTransaction v).pool = s.pool := rfl
@[simp] theorem setTransaction_selfTest (v : Transaction) : (s.setTransaction v).selfTest = s.selfTest := rfl
@[simp] theorem setTransaction_straps (v : Transaction) : (s.setTransaction v).straps = s.straps := rfl
@[simp] theorem setTransaction_pending (v : Transaction) : (s.setTransaction v).pending = s.pending := rfl

@[simp] theorem handPool_port (v : PoolNotice) : (s.handPool v).port = s.port := rfl
@[simp] theorem handPool_seatCtl (v : PoolNotice) : (s.handPool v).seatCtl = s.seatCtl := rfl
@[simp] theorem handPool_engine (v : PoolNotice) : (s.handPool v).engine = s.engine := rfl
@[simp] theorem handPool_allocator (v : PoolNotice) : (s.handPool v).allocator = s.allocator := rfl
@[simp] theorem handPool_cellArray (v : PoolNotice) : (s.handPool v).cellArray = s.cellArray := rfl
@[simp] theorem handPool_banks (v : PoolNotice) : (s.handPool v).banks = s.banks := rfl
@[simp] theorem handPool_meas (v : PoolNotice) : (s.handPool v).meas = s.meas := rfl
@[simp] theorem handPool_selfTest (v : PoolNotice) : (s.handPool v).selfTest = s.selfTest := rfl
@[simp] theorem handPool_straps (v : PoolNotice) : (s.handPool v).straps = s.straps := rfl
@[simp] theorem handPool_pending (v : PoolNotice) : (s.handPool v).pending = s.pending := rfl

/-! ## Other fields of the block a write touches -/

@[simp] theorem setSlot_engine_bankOnNotices (k : Fin 32) (v : Slot) : (s.setSlot k v).engine.bankOnNotices = s.engine.bankOnNotices := rfl
@[simp] theorem setSlot_engine_lapseNotices (k : Fin 32) (v : Slot) : (s.setSlot k v).engine.lapseNotices = s.engine.lapseNotices := rfl
@[simp] theorem setSlot_engine_results (k : Fin 32) (v : Slot) : (s.setSlot k v).engine.results = s.engine.results := rfl

@[simp] theorem setSeat_seatCtl_ackInHold (x : Seat) (v : SeatEntry) : (s.setSeat x v).seatCtl.ackInHold = s.seatCtl.ackInHold := rfl
@[simp] theorem setSeat_seatCtl_attnLow (x : Seat) (v : SeatEntry) : (s.setSeat x v).seatCtl.attnLow = s.seatCtl.attnLow := rfl

@[simp] theorem setPage_port_transaction (x : Seat) (v : Page) : (s.setPage x v).port.transaction = s.port.transaction := rfl
@[simp] theorem setPage_port_resetLow (x : Seat) (v : Page) : (s.setPage x v).port.resetLow = s.port.resetLow := rfl
@[simp] theorem setPage_port_ack (x : Seat) (v : Page) : (s.setPage x v).port.ack = s.port.ack := rfl
@[simp] theorem setPage_port_readData (x : Seat) (v : Page) : (s.setPage x v).port.readData = s.port.readData := rfl
@[simp] theorem setPage_port_requestQueue (x : Seat) (v : Page) : (s.setPage x v).port.requestQueue = s.port.requestQueue := rfl
@[simp] theorem setPage_port_busy (x : Seat) (v : Page) : (s.setPage x v).port.busy = s.port.busy := rfl

@[simp] theorem setBusy_port_transaction (x : Seat) (v : Bool) : (s.setBusy x v).port.transaction = s.port.transaction := rfl
@[simp] theorem setBusy_port_resetLow (x : Seat) (v : Bool) : (s.setBusy x v).port.resetLow = s.port.resetLow := rfl
@[simp] theorem setBusy_port_ack (x : Seat) (v : Bool) : (s.setBusy x v).port.ack = s.port.ack := rfl
@[simp] theorem setBusy_port_readData (x : Seat) (v : Bool) : (s.setBusy x v).port.readData = s.port.readData := rfl
@[simp] theorem setBusy_port_requestQueue (x : Seat) (v : Bool) : (s.setBusy x v).port.requestQueue = s.port.requestQueue := rfl
@[simp] theorem setBusy_port_pages (x : Seat) (v : Bool) : (s.setBusy x v).port.pages = s.port.pages := rfl

@[simp] theorem setCell_allocator_committed (c : Fin 24) (v : CellEntry) : (s.setCell c v).allocator.committed = s.allocator.committed := rfl
@[simp] theorem setCell_allocator_terminals (c : Fin 24) (v : CellEntry) : (s.setCell c v).allocator.terminals = s.allocator.terminals := rfl
@[simp] theorem setCell_allocator_waitList (c : Fin 24) (v : CellEntry) : (s.setCell c v).allocator.waitList = s.allocator.waitList := rfl
@[simp] theorem setCell_allocator_waitExpiryNotices (c : Fin 24) (v : CellEntry) : (s.setCell c v).allocator.waitExpiryNotices = s.allocator.waitExpiryNotices := rfl

@[simp] theorem setTerminal_allocator_cells (t : Fin 16) (v : TerminalEntry) : (s.setTerminal t v).allocator.cells = s.allocator.cells := rfl
@[simp] theorem setTerminal_allocator_committed (t : Fin 16) (v : TerminalEntry) : (s.setTerminal t v).allocator.committed = s.allocator.committed := rfl
@[simp] theorem setTerminal_allocator_waitList (t : Fin 16) (v : TerminalEntry) : (s.setTerminal t v).allocator.waitList = s.allocator.waitList := rfl
@[simp] theorem setTerminal_allocator_waitExpiryNotices (t : Fin 16) (v : TerminalEntry) : (s.setTerminal t v).allocator.waitExpiryNotices = s.allocator.waitExpiryNotices := rfl

@[simp] theorem setCommitted_allocator_cells (b : Fin 4) (v : Nat) : (s.setCommitted b v).allocator.cells = s.allocator.cells := rfl
@[simp] theorem setCommitted_allocator_terminals (b : Fin 4) (v : Nat) : (s.setCommitted b v).allocator.terminals = s.allocator.terminals := rfl
@[simp] theorem setCommitted_allocator_waitList (b : Fin 4) (v : Nat) : (s.setCommitted b v).allocator.waitList = s.allocator.waitList := rfl
@[simp] theorem setCommitted_allocator_waitExpiryNotices (b : Fin 4) (v : Nat) : (s.setCommitted b v).allocator.waitExpiryNotices = s.allocator.waitExpiryNotices := rfl

@[simp] theorem setAck_port_transaction (v : Bool) : (s.setAck v).port.transaction = s.port.transaction := rfl
@[simp] theorem setAck_port_resetLow (v : Bool) : (s.setAck v).port.resetLow = s.port.resetLow := rfl
@[simp] theorem setAck_port_readData (v : Bool) : (s.setAck v).port.readData = s.port.readData := rfl
@[simp] theorem setAck_port_requestQueue (v : Bool) : (s.setAck v).port.requestQueue = s.port.requestQueue := rfl
@[simp] theorem setAck_port_pages (v : Bool) : (s.setAck v).port.pages = s.port.pages := rfl
@[simp] theorem setAck_port_busy (v : Bool) : (s.setAck v).port.busy = s.port.busy := rfl

@[simp] theorem setTransaction_port_resetLow (v : Transaction) : (s.setTransaction v).port.resetLow = s.port.resetLow := rfl
@[simp] theorem setTransaction_port_ack (v : Transaction) : (s.setTransaction v).port.ack = s.port.ack := rfl
@[simp] theorem setTransaction_port_readData (v : Transaction) : (s.setTransaction v).port.readData = s.port.readData := rfl
@[simp] theorem setTransaction_port_requestQueue (v : Transaction) : (s.setTransaction v).port.requestQueue = s.port.requestQueue := rfl
@[simp] theorem setTransaction_port_pages (v : Transaction) : (s.setTransaction v).port.pages = s.port.pages := rfl
@[simp] theorem setTransaction_port_busy (v : Transaction) : (s.setTransaction v).port.busy = s.port.busy := rfl

@[simp] theorem handPool_pool_state (v : PoolNotice) : (s.handPool v).pool.state = s.pool.state := rfl
@[simp] theorem handPool_pool_trips (v : PoolNotice) : (s.handPool v).pool.trips = s.pool.trips := rfl

@[simp] theorem setAck_port_ack (v : Bool) : (s.setAck v).port.ack = v := rfl
@[simp] theorem setTransaction_port_transaction (v : Transaction) : (s.setTransaction v).port.transaction = v := rfl
@[simp] theorem handPool_pool_notices (v : PoolNotice) : (s.handPool v).pool.notices = s.pool.notices ++ [v] := rfl

/-! ## Reads after writes -/

@[simp] theorem slot_setSlot (k j : Fin 32) (v : Slot) : (s.setSlot k v).slot j = if k = j then v else s.slot j := by
  simp [slot, setSlot, Vector.getElem_set, Fin.ext_iff]

@[simp] theorem cell_setCell (k j : Fin 24) (v : CellEntry) : (s.setCell k v).cell j = if k = j then v else s.cell j := by
  simp [cell, setCell, Vector.getElem_set, Fin.ext_iff]

@[simp] theorem terminal_setTerminal (k j : Fin 16) (v : TerminalEntry) : (s.setTerminal k v).terminal j = if k = j then v else s.terminal j := by
  simp [terminal, setTerminal, Vector.getElem_set, Fin.ext_iff]

@[simp] theorem committed_setCommitted (k j : Fin 4) (v : Nat) : (s.setCommitted k v).committed j = if k = j then v else s.committed j := by
  simp [committed, setCommitted, Vector.getElem_set, Fin.ext_iff]

@[simp] theorem drive_setDrive (k j : Fin 24) (v : CellDrive) : (s.setDrive k v).drive j = if k = j then v else s.drive j := by
  simp [drive, setDrive, Vector.getElem_set, Fin.ext_iff]

@[simp] theorem bank_setBank (k j : Fin 4) (v : Bank) : (s.setBank k v).bank j = if k = j then v else s.bank j := by
  simp [bank, setBank, Vector.getElem_set, Fin.ext_iff]

theorem idx_inj {x y : Seat} : x.idx.val = y.idx.val ↔ x = y := by cases x <;> cases y <;> decide

@[simp] theorem seat_setSeat (x y : Seat) (v : SeatEntry) : (s.setSeat x v).seat y = if x = y then v else s.seat y := by
  simp [seat, setSeat, Vector.getElem_set, idx_inj]

@[simp] theorem page_setPage (x y : Seat) (v : Page) : (s.setPage x v).page y = if x = y then v else s.page y := by
  simp [page, setPage, Vector.getElem_set, idx_inj]

@[simp] theorem busy_setBusy (x y : Seat) (v : Bool) : (s.setBusy x v).busy y = if x = y then v else s.busy y := by
  simp [busy, setBusy, Vector.getElem_set, idx_inj]

/-! ## Reads of another table -/

@[simp] theorem seat_setSlot (k : Fin 32) (v : Slot) (i : Seat) : (s.setSlot k v).seat i = s.seat i := rfl
@[simp] theorem page_setSlot (k : Fin 32) (v : Slot) (i : Seat) : (s.setSlot k v).page i = s.page i := rfl
@[simp] theorem busy_setSlot (k : Fin 32) (v : Slot) (i : Seat) : (s.setSlot k v).busy i = s.busy i := rfl
@[simp] theorem cell_setSlot (k : Fin 32) (v : Slot) (i : Fin 24) : (s.setSlot k v).cell i = s.cell i := rfl
@[simp] theorem terminal_setSlot (k : Fin 32) (v : Slot) (i : Fin 16) : (s.setSlot k v).terminal i = s.terminal i := rfl
@[simp] theorem committed_setSlot (k : Fin 32) (v : Slot) (i : Fin 4) : (s.setSlot k v).committed i = s.committed i := rfl
@[simp] theorem drive_setSlot (k : Fin 32) (v : Slot) (i : Fin 24) : (s.setSlot k v).drive i = s.drive i := rfl
@[simp] theorem bank_setSlot (k : Fin 32) (v : Slot) (i : Fin 4) : (s.setSlot k v).bank i = s.bank i := rfl

@[simp] theorem slot_setSeat (x : Seat) (v : SeatEntry) (i : Fin 32) : (s.setSeat x v).slot i = s.slot i := rfl
@[simp] theorem lease_setSeat (x : Seat) (v : SeatEntry) (i : Fin 32) : (s.setSeat x v).lease? i = s.lease? i := rfl
@[simp] theorem handleAt_setSeat (x : Seat) (v : SeatEntry) (i : Fin 32) : (s.setSeat x v).handleAt i = s.handleAt i := rfl
@[simp] theorem resolve_setSeat (x : Seat) (v : SeatEntry) (i : Handle) : (s.setSeat x v).resolve i = s.resolve i := rfl
@[simp] theorem page_setSeat (x : Seat) (v : SeatEntry) (i : Seat) : (s.setSeat x v).page i = s.page i := rfl
@[simp] theorem busy_setSeat (x : Seat) (v : SeatEntry) (i : Seat) : (s.setSeat x v).busy i = s.busy i := rfl
@[simp] theorem cell_setSeat (x : Seat) (v : SeatEntry) (i : Fin 24) : (s.setSeat x v).cell i = s.cell i := rfl
@[simp] theorem terminal_setSeat (x : Seat) (v : SeatEntry) (i : Fin 16) : (s.setSeat x v).terminal i = s.terminal i := rfl
@[simp] theorem committed_setSeat (x : Seat) (v : SeatEntry) (i : Fin 4) : (s.setSeat x v).committed i = s.committed i := rfl
@[simp] theorem drive_setSeat (x : Seat) (v : SeatEntry) (i : Fin 24) : (s.setSeat x v).drive i = s.drive i := rfl
@[simp] theorem bank_setSeat (x : Seat) (v : SeatEntry) (i : Fin 4) : (s.setSeat x v).bank i = s.bank i := rfl

@[simp] theorem slot_setPage (x : Seat) (v : Page) (i : Fin 32) : (s.setPage x v).slot i = s.slot i := rfl
@[simp] theorem lease_setPage (x : Seat) (v : Page) (i : Fin 32) : (s.setPage x v).lease? i = s.lease? i := rfl
@[simp] theorem handleAt_setPage (x : Seat) (v : Page) (i : Fin 32) : (s.setPage x v).handleAt i = s.handleAt i := rfl
@[simp] theorem resolve_setPage (x : Seat) (v : Page) (i : Handle) : (s.setPage x v).resolve i = s.resolve i := rfl
@[simp] theorem seat_setPage (x : Seat) (v : Page) (i : Seat) : (s.setPage x v).seat i = s.seat i := rfl
@[simp] theorem busy_setPage (x : Seat) (v : Page) (i : Seat) : (s.setPage x v).busy i = s.busy i := rfl
@[simp] theorem cell_setPage (x : Seat) (v : Page) (i : Fin 24) : (s.setPage x v).cell i = s.cell i := rfl
@[simp] theorem terminal_setPage (x : Seat) (v : Page) (i : Fin 16) : (s.setPage x v).terminal i = s.terminal i := rfl
@[simp] theorem committed_setPage (x : Seat) (v : Page) (i : Fin 4) : (s.setPage x v).committed i = s.committed i := rfl
@[simp] theorem drive_setPage (x : Seat) (v : Page) (i : Fin 24) : (s.setPage x v).drive i = s.drive i := rfl
@[simp] theorem bank_setPage (x : Seat) (v : Page) (i : Fin 4) : (s.setPage x v).bank i = s.bank i := rfl

@[simp] theorem slot_setBusy (x : Seat) (v : Bool) (i : Fin 32) : (s.setBusy x v).slot i = s.slot i := rfl
@[simp] theorem lease_setBusy (x : Seat) (v : Bool) (i : Fin 32) : (s.setBusy x v).lease? i = s.lease? i := rfl
@[simp] theorem handleAt_setBusy (x : Seat) (v : Bool) (i : Fin 32) : (s.setBusy x v).handleAt i = s.handleAt i := rfl
@[simp] theorem resolve_setBusy (x : Seat) (v : Bool) (i : Handle) : (s.setBusy x v).resolve i = s.resolve i := rfl
@[simp] theorem seat_setBusy (x : Seat) (v : Bool) (i : Seat) : (s.setBusy x v).seat i = s.seat i := rfl
@[simp] theorem page_setBusy (x : Seat) (v : Bool) (i : Seat) : (s.setBusy x v).page i = s.page i := rfl
@[simp] theorem cell_setBusy (x : Seat) (v : Bool) (i : Fin 24) : (s.setBusy x v).cell i = s.cell i := rfl
@[simp] theorem terminal_setBusy (x : Seat) (v : Bool) (i : Fin 16) : (s.setBusy x v).terminal i = s.terminal i := rfl
@[simp] theorem committed_setBusy (x : Seat) (v : Bool) (i : Fin 4) : (s.setBusy x v).committed i = s.committed i := rfl
@[simp] theorem drive_setBusy (x : Seat) (v : Bool) (i : Fin 24) : (s.setBusy x v).drive i = s.drive i := rfl
@[simp] theorem bank_setBusy (x : Seat) (v : Bool) (i : Fin 4) : (s.setBusy x v).bank i = s.bank i := rfl

@[simp] theorem slot_setCell (c : Fin 24) (v : CellEntry) (i : Fin 32) : (s.setCell c v).slot i = s.slot i := rfl
@[simp] theorem lease_setCell (c : Fin 24) (v : CellEntry) (i : Fin 32) : (s.setCell c v).lease? i = s.lease? i := rfl
@[simp] theorem handleAt_setCell (c : Fin 24) (v : CellEntry) (i : Fin 32) : (s.setCell c v).handleAt i = s.handleAt i := rfl
@[simp] theorem resolve_setCell (c : Fin 24) (v : CellEntry) (i : Handle) : (s.setCell c v).resolve i = s.resolve i := rfl
@[simp] theorem seat_setCell (c : Fin 24) (v : CellEntry) (i : Seat) : (s.setCell c v).seat i = s.seat i := rfl
@[simp] theorem page_setCell (c : Fin 24) (v : CellEntry) (i : Seat) : (s.setCell c v).page i = s.page i := rfl
@[simp] theorem busy_setCell (c : Fin 24) (v : CellEntry) (i : Seat) : (s.setCell c v).busy i = s.busy i := rfl
@[simp] theorem terminal_setCell (c : Fin 24) (v : CellEntry) (i : Fin 16) : (s.setCell c v).terminal i = s.terminal i := rfl
@[simp] theorem committed_setCell (c : Fin 24) (v : CellEntry) (i : Fin 4) : (s.setCell c v).committed i = s.committed i := rfl
@[simp] theorem drive_setCell (c : Fin 24) (v : CellEntry) (i : Fin 24) : (s.setCell c v).drive i = s.drive i := rfl
@[simp] theorem bank_setCell (c : Fin 24) (v : CellEntry) (i : Fin 4) : (s.setCell c v).bank i = s.bank i := rfl

@[simp] theorem slot_setTerminal (t : Fin 16) (v : TerminalEntry) (i : Fin 32) : (s.setTerminal t v).slot i = s.slot i := rfl
@[simp] theorem lease_setTerminal (t : Fin 16) (v : TerminalEntry) (i : Fin 32) : (s.setTerminal t v).lease? i = s.lease? i := rfl
@[simp] theorem handleAt_setTerminal (t : Fin 16) (v : TerminalEntry) (i : Fin 32) : (s.setTerminal t v).handleAt i = s.handleAt i := rfl
@[simp] theorem resolve_setTerminal (t : Fin 16) (v : TerminalEntry) (i : Handle) : (s.setTerminal t v).resolve i = s.resolve i := rfl
@[simp] theorem seat_setTerminal (t : Fin 16) (v : TerminalEntry) (i : Seat) : (s.setTerminal t v).seat i = s.seat i := rfl
@[simp] theorem page_setTerminal (t : Fin 16) (v : TerminalEntry) (i : Seat) : (s.setTerminal t v).page i = s.page i := rfl
@[simp] theorem busy_setTerminal (t : Fin 16) (v : TerminalEntry) (i : Seat) : (s.setTerminal t v).busy i = s.busy i := rfl
@[simp] theorem cell_setTerminal (t : Fin 16) (v : TerminalEntry) (i : Fin 24) : (s.setTerminal t v).cell i = s.cell i := rfl
@[simp] theorem committed_setTerminal (t : Fin 16) (v : TerminalEntry) (i : Fin 4) : (s.setTerminal t v).committed i = s.committed i := rfl
@[simp] theorem drive_setTerminal (t : Fin 16) (v : TerminalEntry) (i : Fin 24) : (s.setTerminal t v).drive i = s.drive i := rfl
@[simp] theorem bank_setTerminal (t : Fin 16) (v : TerminalEntry) (i : Fin 4) : (s.setTerminal t v).bank i = s.bank i := rfl

@[simp] theorem slot_setCommitted (b : Fin 4) (v : Nat) (i : Fin 32) : (s.setCommitted b v).slot i = s.slot i := rfl
@[simp] theorem lease_setCommitted (b : Fin 4) (v : Nat) (i : Fin 32) : (s.setCommitted b v).lease? i = s.lease? i := rfl
@[simp] theorem handleAt_setCommitted (b : Fin 4) (v : Nat) (i : Fin 32) : (s.setCommitted b v).handleAt i = s.handleAt i := rfl
@[simp] theorem resolve_setCommitted (b : Fin 4) (v : Nat) (i : Handle) : (s.setCommitted b v).resolve i = s.resolve i := rfl
@[simp] theorem seat_setCommitted (b : Fin 4) (v : Nat) (i : Seat) : (s.setCommitted b v).seat i = s.seat i := rfl
@[simp] theorem page_setCommitted (b : Fin 4) (v : Nat) (i : Seat) : (s.setCommitted b v).page i = s.page i := rfl
@[simp] theorem busy_setCommitted (b : Fin 4) (v : Nat) (i : Seat) : (s.setCommitted b v).busy i = s.busy i := rfl
@[simp] theorem cell_setCommitted (b : Fin 4) (v : Nat) (i : Fin 24) : (s.setCommitted b v).cell i = s.cell i := rfl
@[simp] theorem terminal_setCommitted (b : Fin 4) (v : Nat) (i : Fin 16) : (s.setCommitted b v).terminal i = s.terminal i := rfl
@[simp] theorem drive_setCommitted (b : Fin 4) (v : Nat) (i : Fin 24) : (s.setCommitted b v).drive i = s.drive i := rfl
@[simp] theorem bank_setCommitted (b : Fin 4) (v : Nat) (i : Fin 4) : (s.setCommitted b v).bank i = s.bank i := rfl

@[simp] theorem slot_setDrive (c : Fin 24) (v : CellDrive) (i : Fin 32) : (s.setDrive c v).slot i = s.slot i := rfl
@[simp] theorem lease_setDrive (c : Fin 24) (v : CellDrive) (i : Fin 32) : (s.setDrive c v).lease? i = s.lease? i := rfl
@[simp] theorem handleAt_setDrive (c : Fin 24) (v : CellDrive) (i : Fin 32) : (s.setDrive c v).handleAt i = s.handleAt i := rfl
@[simp] theorem resolve_setDrive (c : Fin 24) (v : CellDrive) (i : Handle) : (s.setDrive c v).resolve i = s.resolve i := rfl
@[simp] theorem seat_setDrive (c : Fin 24) (v : CellDrive) (i : Seat) : (s.setDrive c v).seat i = s.seat i := rfl
@[simp] theorem page_setDrive (c : Fin 24) (v : CellDrive) (i : Seat) : (s.setDrive c v).page i = s.page i := rfl
@[simp] theorem busy_setDrive (c : Fin 24) (v : CellDrive) (i : Seat) : (s.setDrive c v).busy i = s.busy i := rfl
@[simp] theorem cell_setDrive (c : Fin 24) (v : CellDrive) (i : Fin 24) : (s.setDrive c v).cell i = s.cell i := rfl
@[simp] theorem terminal_setDrive (c : Fin 24) (v : CellDrive) (i : Fin 16) : (s.setDrive c v).terminal i = s.terminal i := rfl
@[simp] theorem committed_setDrive (c : Fin 24) (v : CellDrive) (i : Fin 4) : (s.setDrive c v).committed i = s.committed i := rfl
@[simp] theorem bank_setDrive (c : Fin 24) (v : CellDrive) (i : Fin 4) : (s.setDrive c v).bank i = s.bank i := rfl

@[simp] theorem slot_setBank (b : Fin 4) (v : Bank) (i : Fin 32) : (s.setBank b v).slot i = s.slot i := rfl
@[simp] theorem lease_setBank (b : Fin 4) (v : Bank) (i : Fin 32) : (s.setBank b v).lease? i = s.lease? i := rfl
@[simp] theorem handleAt_setBank (b : Fin 4) (v : Bank) (i : Fin 32) : (s.setBank b v).handleAt i = s.handleAt i := rfl
@[simp] theorem resolve_setBank (b : Fin 4) (v : Bank) (i : Handle) : (s.setBank b v).resolve i = s.resolve i := rfl
@[simp] theorem seat_setBank (b : Fin 4) (v : Bank) (i : Seat) : (s.setBank b v).seat i = s.seat i := rfl
@[simp] theorem page_setBank (b : Fin 4) (v : Bank) (i : Seat) : (s.setBank b v).page i = s.page i := rfl
@[simp] theorem busy_setBank (b : Fin 4) (v : Bank) (i : Seat) : (s.setBank b v).busy i = s.busy i := rfl
@[simp] theorem cell_setBank (b : Fin 4) (v : Bank) (i : Fin 24) : (s.setBank b v).cell i = s.cell i := rfl
@[simp] theorem terminal_setBank (b : Fin 4) (v : Bank) (i : Fin 16) : (s.setBank b v).terminal i = s.terminal i := rfl
@[simp] theorem committed_setBank (b : Fin 4) (v : Bank) (i : Fin 4) : (s.setBank b v).committed i = s.committed i := rfl
@[simp] theorem drive_setBank (b : Fin 4) (v : Bank) (i : Fin 24) : (s.setBank b v).drive i = s.drive i := rfl

@[simp] theorem slot_setAck (v : Bool) (i : Fin 32) : (s.setAck v).slot i = s.slot i := rfl
@[simp] theorem lease_setAck (v : Bool) (i : Fin 32) : (s.setAck v).lease? i = s.lease? i := rfl
@[simp] theorem handleAt_setAck (v : Bool) (i : Fin 32) : (s.setAck v).handleAt i = s.handleAt i := rfl
@[simp] theorem resolve_setAck (v : Bool) (i : Handle) : (s.setAck v).resolve i = s.resolve i := rfl
@[simp] theorem seat_setAck (v : Bool) (i : Seat) : (s.setAck v).seat i = s.seat i := rfl
@[simp] theorem page_setAck (v : Bool) (i : Seat) : (s.setAck v).page i = s.page i := rfl
@[simp] theorem busy_setAck (v : Bool) (i : Seat) : (s.setAck v).busy i = s.busy i := rfl
@[simp] theorem cell_setAck (v : Bool) (i : Fin 24) : (s.setAck v).cell i = s.cell i := rfl
@[simp] theorem terminal_setAck (v : Bool) (i : Fin 16) : (s.setAck v).terminal i = s.terminal i := rfl
@[simp] theorem committed_setAck (v : Bool) (i : Fin 4) : (s.setAck v).committed i = s.committed i := rfl
@[simp] theorem drive_setAck (v : Bool) (i : Fin 24) : (s.setAck v).drive i = s.drive i := rfl
@[simp] theorem bank_setAck (v : Bool) (i : Fin 4) : (s.setAck v).bank i = s.bank i := rfl

@[simp] theorem slot_setTransaction (v : Transaction) (i : Fin 32) : (s.setTransaction v).slot i = s.slot i := rfl
@[simp] theorem lease_setTransaction (v : Transaction) (i : Fin 32) : (s.setTransaction v).lease? i = s.lease? i := rfl
@[simp] theorem handleAt_setTransaction (v : Transaction) (i : Fin 32) : (s.setTransaction v).handleAt i = s.handleAt i := rfl
@[simp] theorem resolve_setTransaction (v : Transaction) (i : Handle) : (s.setTransaction v).resolve i = s.resolve i := rfl
@[simp] theorem seat_setTransaction (v : Transaction) (i : Seat) : (s.setTransaction v).seat i = s.seat i := rfl
@[simp] theorem page_setTransaction (v : Transaction) (i : Seat) : (s.setTransaction v).page i = s.page i := rfl
@[simp] theorem busy_setTransaction (v : Transaction) (i : Seat) : (s.setTransaction v).busy i = s.busy i := rfl
@[simp] theorem cell_setTransaction (v : Transaction) (i : Fin 24) : (s.setTransaction v).cell i = s.cell i := rfl
@[simp] theorem terminal_setTransaction (v : Transaction) (i : Fin 16) : (s.setTransaction v).terminal i = s.terminal i := rfl
@[simp] theorem committed_setTransaction (v : Transaction) (i : Fin 4) : (s.setTransaction v).committed i = s.committed i := rfl
@[simp] theorem drive_setTransaction (v : Transaction) (i : Fin 24) : (s.setTransaction v).drive i = s.drive i := rfl
@[simp] theorem bank_setTransaction (v : Transaction) (i : Fin 4) : (s.setTransaction v).bank i = s.bank i := rfl

@[simp] theorem slot_handPool (v : PoolNotice) (i : Fin 32) : (s.handPool v).slot i = s.slot i := rfl
@[simp] theorem lease_handPool (v : PoolNotice) (i : Fin 32) : (s.handPool v).lease? i = s.lease? i := rfl
@[simp] theorem handleAt_handPool (v : PoolNotice) (i : Fin 32) : (s.handPool v).handleAt i = s.handleAt i := rfl
@[simp] theorem resolve_handPool (v : PoolNotice) (i : Handle) : (s.handPool v).resolve i = s.resolve i := rfl
@[simp] theorem seat_handPool (v : PoolNotice) (i : Seat) : (s.handPool v).seat i = s.seat i := rfl
@[simp] theorem page_handPool (v : PoolNotice) (i : Seat) : (s.handPool v).page i = s.page i := rfl
@[simp] theorem busy_handPool (v : PoolNotice) (i : Seat) : (s.handPool v).busy i = s.busy i := rfl
@[simp] theorem cell_handPool (v : PoolNotice) (i : Fin 24) : (s.handPool v).cell i = s.cell i := rfl
@[simp] theorem terminal_handPool (v : PoolNotice) (i : Fin 16) : (s.handPool v).terminal i = s.terminal i := rfl
@[simp] theorem committed_handPool (v : PoolNotice) (i : Fin 4) : (s.handPool v).committed i = s.committed i := rfl
@[simp] theorem drive_handPool (v : PoolNotice) (i : Fin 24) : (s.handPool v).drive i = s.drive i := rfl
@[simp] theorem bank_handPool (v : PoolNotice) (i : Fin 4) : (s.handPool v).bank i = s.bank i := rfl

/-! ## Records -/

@[simp] theorem lease_setSlot (k j : Fin 32) (v : Slot) :
    (s.setSlot k v).lease? j = if k = j then v.record else s.lease? j := by
  simp only [lease?, slot_setSlot]; split <;> rfl

@[simp] theorem lease_putLease (k j : Fin 32) (l : Lease) :
    (s.putLease k l).lease? j = if k = j then some l else s.lease? j := by simp [putLease]

/-- Writing a record keeps every generation. -/
@[simp] theorem gen_putLease (k j : Fin 32) (l : Lease) : ((s.putLease k l).slot j).gen = (s.slot j).gen := by
  simp only [putLease, slot_setSlot]; split <;> simp_all

@[simp] theorem handleAt_putLease (k j : Fin 32) (l : Lease) : (s.putLease k l).handleAt j = s.handleAt j := by
  simp [handleAt]

@[simp] theorem putLease_port (k : Fin 32) (l : Lease) : (s.putLease k l).port = s.port := rfl
@[simp] theorem putLease_seatCtl (k : Fin 32) (l : Lease) : (s.putLease k l).seatCtl = s.seatCtl := rfl
@[simp] theorem putLease_engine_bankOnNotices (k : Fin 32) (l : Lease) :
    (s.putLease k l).engine.bankOnNotices = s.engine.bankOnNotices := rfl
@[simp] theorem putLease_engine_lapseNotices (k : Fin 32) (l : Lease) :
    (s.putLease k l).engine.lapseNotices = s.engine.lapseNotices := rfl
@[simp] theorem putLease_engine_results (k : Fin 32) (l : Lease) : (s.putLease k l).engine.results = s.engine.results := rfl
@[simp] theorem putLease_allocator (k : Fin 32) (l : Lease) : (s.putLease k l).allocator = s.allocator := rfl
@[simp] theorem putLease_cellArray (k : Fin 32) (l : Lease) : (s.putLease k l).cellArray = s.cellArray := rfl
@[simp] theorem putLease_banks (k : Fin 32) (l : Lease) : (s.putLease k l).banks = s.banks := rfl
@[simp] theorem putLease_meas (k : Fin 32) (l : Lease) : (s.putLease k l).meas = s.meas := rfl
@[simp] theorem putLease_pool (k : Fin 32) (l : Lease) : (s.putLease k l).pool = s.pool := rfl
@[simp] theorem putLease_selfTest (k : Fin 32) (l : Lease) : (s.putLease k l).selfTest = s.selfTest := rfl
@[simp] theorem putLease_straps (k : Fin 32) (l : Lease) : (s.putLease k l).straps = s.straps := rfl
@[simp] theorem putLease_pending (k : Fin 32) (l : Lease) : (s.putLease k l).pending = s.pending := rfl
@[simp] theorem seat_putLease (k : Fin 32) (l : Lease) (i : Seat) : (s.putLease k l).seat i = s.seat i := rfl
@[simp] theorem page_putLease (k : Fin 32) (l : Lease) (i : Seat) : (s.putLease k l).page i = s.page i := rfl
@[simp] theorem busy_putLease (k : Fin 32) (l : Lease) (i : Seat) : (s.putLease k l).busy i = s.busy i := rfl
@[simp] theorem cell_putLease (k : Fin 32) (l : Lease) (i : Fin 24) : (s.putLease k l).cell i = s.cell i := rfl
@[simp] theorem terminal_putLease (k : Fin 32) (l : Lease) (i : Fin 16) : (s.putLease k l).terminal i = s.terminal i := rfl
@[simp] theorem committed_putLease (k : Fin 32) (l : Lease) (i : Fin 4) : (s.putLease k l).committed i = s.committed i := rfl
@[simp] theorem drive_putLease (k : Fin 32) (l : Lease) (i : Fin 24) : (s.putLease k l).drive i = s.drive i := rfl
@[simp] theorem bank_putLease (k : Fin 32) (l : Lease) (i : Fin 4) : (s.putLease k l).bank i = s.bank i := rfl

/-! ## The output pins: `driveOutputs` writes the switches, the rail enables and ATTN#, and nothing else -/

@[simp] theorem driveOutputs_port : s.driveOutputs.port = s.port := rfl
@[simp] theorem driveOutputs_engine : s.driveOutputs.engine = s.engine := rfl
@[simp] theorem driveOutputs_cellArray : s.driveOutputs.cellArray = s.cellArray := rfl
@[simp] theorem driveOutputs_meas : s.driveOutputs.meas = s.meas := rfl
@[simp] theorem driveOutputs_pool : s.driveOutputs.pool = s.pool := rfl
@[simp] theorem driveOutputs_selfTest : s.driveOutputs.selfTest = s.selfTest := rfl
@[simp] theorem driveOutputs_straps : s.driveOutputs.straps = s.straps := rfl
@[simp] theorem driveOutputs_pending : s.driveOutputs.pending = s.pending := rfl
@[simp] theorem driveOutputs_allocator_cells : s.driveOutputs.allocator.cells = s.allocator.cells := rfl
@[simp] theorem driveOutputs_allocator_committed : s.driveOutputs.allocator.committed = s.allocator.committed := rfl
@[simp] theorem driveOutputs_allocator_waitList : s.driveOutputs.allocator.waitList = s.allocator.waitList := rfl
@[simp] theorem driveOutputs_allocator_waitExpiryNotices : s.driveOutputs.allocator.waitExpiryNotices = s.allocator.waitExpiryNotices := rfl
@[simp] theorem driveOutputs_seatCtl_seats : s.driveOutputs.seatCtl.seats = s.seatCtl.seats := rfl
@[simp] theorem driveOutputs_seatCtl_ackInHold : s.driveOutputs.seatCtl.ackInHold = s.seatCtl.ackInHold := rfl
@[simp] theorem driveOutputs_seatCtl_attnLow : s.driveOutputs.seatCtl.attnLow = s.attention := rfl
@[simp] theorem slot_driveOutputs (i : Fin 32) : s.driveOutputs.slot i = s.slot i := rfl
@[simp] theorem lease_driveOutputs (i : Fin 32) : s.driveOutputs.lease? i = s.lease? i := rfl
@[simp] theorem handleAt_driveOutputs (i : Fin 32) : s.driveOutputs.handleAt i = s.handleAt i := rfl
@[simp] theorem resolve_driveOutputs (i : Handle) : s.driveOutputs.resolve i = s.resolve i := rfl
@[simp] theorem seat_driveOutputs (i : Seat) : s.driveOutputs.seat i = s.seat i := rfl
@[simp] theorem page_driveOutputs (i : Seat) : s.driveOutputs.page i = s.page i := rfl
@[simp] theorem busy_driveOutputs (i : Seat) : s.driveOutputs.busy i = s.busy i := rfl
@[simp] theorem cell_driveOutputs (i : Fin 24) : s.driveOutputs.cell i = s.cell i := rfl
@[simp] theorem committed_driveOutputs (i : Fin 4) : s.driveOutputs.committed i = s.committed i := rfl
@[simp] theorem drive_driveOutputs (i : Fin 24) : s.driveOutputs.drive i = s.drive i := rfl

@[simp] theorem terminal_driveOutputs (t : Fin 16) :
    s.driveOutputs.terminal t = { s.terminal t with switchClosed := s.switchWanted t } := by
  simp [terminal, driveOutputs]

@[simp] theorem bank_driveOutputs (b : Fin 4) :
    s.driveOutputs.bank b = { s.bank b with railEnable := (s.bank b).state.railEnabled } := by
  simp [bank, driveOutputs]

/-! ## A second write replaces the first -/

@[simp] theorem setSlot_setSlot (k : Fin 32) (v w : Slot) : (s.setSlot k v).setSlot k w = s.setSlot k w := by
  simp [setSlot]

@[simp] theorem setBank_setBank (b : Fin 4) (v w : Bank) : (s.setBank b v).setBank b w = s.setBank b w := by
  simp [setBank]

@[simp] theorem setSeat_setSeat (x : Seat) (v w : SeatEntry) : (s.setSeat x v).setSeat x w = s.setSeat x w := by
  simp [setSeat]

@[simp] theorem setTerminal_setTerminal (t : Fin 16) (v w : TerminalEntry) :
    (s.setTerminal t v).setTerminal t w = s.setTerminal t w := by
  simp [setTerminal]

@[simp] theorem setCell_setCell (c : Fin 24) (v w : CellEntry) : (s.setCell c v).setCell c w = s.setCell c w := by
  simp [setCell]

@[simp] theorem putLease_putLease (k : Fin 32) (l m : Lease) : (s.putLease k l).putLease k m = s.putLease k m := by
  simp [putLease]

theorem slot_putLease_of_ne {k j : Fin 32} {l : Lease} (h : j ≠ k) : (s.putLease k l).slot j = s.slot j := by
  simp [putLease, Ne.symm h]

end Sys2Proof.Machine.State
end

