-- ==== Sys2Proof/Laws/Outer.lean ====
section
/-! SUPPORT. What no act inside the device touches: the bus port, the straps, the queue of commands and the generations of the lease
table. One lemma per operation, so that no proof about them unfolds an act. -/

namespace Sys2Proof.Machine.State

/-- The part of the state that lies outside the acts of the blocks. -/
def outer (s : State) : Port × Straps × List Instr × (Fin 32 → Fin 8) :=
  (s.port, s.straps, s.pending, fun k => s.engine.slots[k].gen)

@[simp] theorem outer_mk (p sc e al ca b m po st sr pe) :
    outer ⟨p, sc, e, al, ca, b, m, po, st, sr, pe⟩ = (p, sr, pe, fun k => e.slots[k].gen) := rfl

@[simp] theorem outer_fold (s : State) : (s.port, s.straps, s.pending, fun k : Fin 32 => s.engine.slots[k].gen) = s.outer := rfl

@[simp] theorem outer_fold' (s : State) :
    (s.port, s.straps, s.pending, fun k : Fin 32 => s.engine.slots[k.val].gen) = s.outer := rfl

variable (s : State)

theorem foldl_outer {α : Type} {f : State → α → State} (h : ∀ s a, (f s a).outer = s.outer) (l : List α) (s : State) :
    (l.foldl f s).outer = s.outer := by
  induction l generalizing s with
  | nil => rfl
  | cons a l ih => rw [List.foldl_cons, ih, h]

/-! ## Tables -/

@[simp] theorem outer_setSeat (x v) : (s.setSeat x v).outer = s.outer := rfl
@[simp] theorem outer_setCell (x v) : (s.setCell x v).outer = s.outer := rfl
@[simp] theorem outer_setDrive (x v) : (s.setDrive x v).outer = s.outer := rfl
@[simp] theorem outer_setBank (x v) : (s.setBank x v).outer = s.outer := rfl
@[simp] theorem outer_setTerminal (x v) : (s.setTerminal x v).outer = s.outer := rfl
@[simp] theorem outer_setCommitted (x v) : (s.setCommitted x v).outer = s.outer := rfl
@[simp] theorem outer_handPool (v) : (s.handPool v).outer = s.outer := rfl
@[simp] theorem outer_driveOutputs : s.driveOutputs.outer = s.outer := rfl

@[simp] theorem outer_putLease (k l) : (s.putLease k l).outer = s.outer := by
  have h := s.gen_putLease k (l := l)
  simp only [slot] at h
  simp only [outer, putLease_port, putLease_straps, putLease_pending, h]

/-! ## Cells, banks, terminals -/

@[simp] theorem outer_moveBank (b st) : (s.moveBank b st).outer = s.outer := rfl
@[simp] theorem outer_writeCode (c v) : (s.writeCode c v).outer = s.outer := rfl
@[simp] theorem outer_zeroCode (c) : (s.zeroCode c).outer = s.outer := rfl
@[simp] theorem outer_writeRange (c r) : (s.writeRange c r).outer = s.outer := rfl
@[simp] theorem outer_allotCell (h t r c) : (s.allotCell h t r c).outer = s.outer := rfl
@[simp] theorem outer_freeCell (c) : (s.freeCell c).outer = s.outer := rfl
@[simp] theorem outer_zeroCodes (cs) : (s.zeroCodes cs).outer = s.outer := foldl_outer (by simp) ..
@[simp] theorem outer_freeCells (cs) : (s.freeCells cs).outer = s.outer := foldl_outer (by simp) ..
@[simp] theorem outer_allotCells (h t r cs) : (s.allotCells h t r cs).outer = s.outer := foldl_outer (by simp) ..
@[simp] theorem outer_releaseTerminal (t) : (s.releaseTerminal t).outer = s.outer := rfl

/-! ## Events -/

@[simp] theorem outer_postEdge (x v) : (s.postEdge x v).outer = s.outer := by unfold postEdge; split <;> simp
@[simp] theorem outer_raiseLevel (x v) : (s.raiseLevel x v).outer = s.outer := by unfold raiseLevel; split <;> simp
@[simp] theorem outer_endLevel (x v) : (s.endLevel x v).outer = s.outer := by unfold endLevel; split <;> simp
@[simp] theorem outer_clearEvents (x) : (s.clearEvents x).outer = s.outer := rfl
@[simp] theorem outer_acknowledgeLevel (x a v) : (s.acknowledgeLevel x a v).outer = s.outer := by
  unfold acknowledgeLevel; simp only; split <;> [split <;> simp; rfl]
@[simp] theorem outer_acknowledge (x a) : (s.acknowledge x a).outer = s.outer := by simp [acknowledge]
@[simp] theorem outer_postLease (k v) : (s.postLease k v).outer = s.outer := by unfold postLease; split <;> simp
@[simp] theorem outer_raiseHold : s.raiseHold.outer = s.outer := foldl_outer (by simp) ..
@[simp] theorem outer_endHold : s.endHold.outer = s.outer := foldl_outer (by simp) ..
@[simp] theorem outer_endBankFault : s.endBankFault.outer = s.outer := by unfold endBankFault; split <;> simp

/-! ## Rails -/

@[simp] theorem outer_enterOn (b) : (s.enterOn b).outer = s.outer := by
  unfold enterOn; split <;> simp [moveBank]
@[simp] theorem outer_demandRisen (b) : (s.demandRisen b).outer = s.outer := by
  unfold demandRisen; repeat' split
  all_goals simp
@[simp] theorem outer_demandFallen (b) : (s.demandFallen b).outer = s.outer := by unfold demandFallen; split <;> simp
@[simp] theorem outer_raiseClaim (b) : (s.raiseClaim b).outer = s.outer := by simp [raiseClaim]
@[simp] theorem outer_raiseDriving (b) : (s.raiseDriving b).outer = s.outer := by simp [raiseDriving]
@[simp] theorem outer_claimToDriving (b) : (s.claimToDriving b).outer = s.outer := rfl
@[simp] theorem outer_dropClaim (b) : (s.dropClaim b).outer = s.outer := by simp [dropClaim]
@[simp] theorem outer_dropDriving (b) : (s.dropDriving b).outer = s.outer := by simp [dropDriving]
@[simp] theorem outer_reportStop (st b) : (s.reportStop st b).outer = s.outer := by unfold reportStop; split <;> simp

/-! ## Ramps, stops, closings -/

@[simp] theorem outer_writeRamp (cs k) : (s.writeRamp cs k).outer = s.outer := foldl_outer (by simp) ..
@[simp] theorem outer_startRamp (k t e) : (s.startRamp k t e).outer = s.outer := by
  unfold startRamp; split <;> [split <;> [(simp only; split <;> simp); rfl]; rfl]
@[simp] theorem outer_startTargetRamp (k) : (s.startTargetRamp k).outer = s.outer := by
  unfold startTargetRamp; split <;> simp
@[simp] theorem outer_enterStarting (k) : (s.enterStarting k).outer = s.outer := by
  unfold enterStarting; split <;> [split <;> [split <;> simp; rfl]; rfl]
@[simp] theorem outer_enterRampdown (k d) : (s.enterRampdown k d).outer = s.outer := by
  unfold enterRampdown; split <;> simp
@[simp] theorem outer_closeHolding (k w) : (s.closeHolding k w).outer = s.outer := by
  unfold closeHolding; split <;> [split <;> simp; rfl]
@[simp] theorem outer_suspendHolding (k w) : (s.suspendHolding k w).outer = s.outer := by
  unfold suspendHolding; split <;> [split <;> simp; rfl]
@[simp] theorem outer_takeDestination (k d) : (s.takeDestination k d).outer = s.outer := by
  unfold takeDestination; split <;> simp
@[simp] theorem outer_closeWaiting (k w) : (s.closeWaiting k w).outer = s.outer := by
  unfold closeWaiting; split <;> [exact s.outer_putLease ..; rfl]

/-! ## Admission -/

@[simp] theorem outer_admitTo (k l b) : (s.admitTo k l b).outer = s.outer := by simp [admitTo]
@[simp] theorem outer_tryWaiting (k) : (s.tryWaiting k).outer = s.outer := by
  unfold tryWaiting; repeat' split
  all_goals simp
@[simp] theorem outer_rescan : s.rescan.outer = s.outer := by
  unfold rescan; split <;> [rfl; exact foldl_outer (by simp) ..]
@[simp] theorem outer_rescanIf (t) : (s.rescanIf t).outer = s.outer := by unfold rescanIf; split <;> simp

/-! ## Measurement and completions -/

@[simp] theorem outer_joinVerify (h) : (s.joinVerify h).outer = s.outer := by unfold joinVerify; split <;> simp
@[simp] theorem outer_startConversion (a h l) : (s.startConversion a h l).outer = s.outer := rfl
@[simp] theorem outer_reconsider : s.reconsider.outer = s.outer := by
  unfold reconsider; repeat' split
  all_goals simp
@[simp] theorem outer_startDwell : s.startDwell.outer = s.outer := by unfold startDwell; split <;> simp
@[simp] theorem outer_makeVisitDue : s.makeVisitDue.outer = s.outer := rfl
@[simp] theorem outer_endRamp (k) : (s.endRamp k).outer = s.outer := by
  unfold endRamp; repeat' split
  all_goals simp
@[simp] theorem outer_completeRamp (k) : (s.completeRamp k).outer = s.outer := by
  unfold completeRamp; repeat' split
  all_goals (simp only; repeat' split)
  all_goals simp
theorem outer_settleWithin (n) : (settleWithin n s).outer = s.outer := by
  induction n generalizing s with
  | zero => rfl
  | succ n ih => unfold settleWithin; split <;> simp [ih]
@[simp] theorem outer_settle : s.settle.outer = s.outer := outer_settleWithin ..

/-! ## Faults, self-test -/

@[simp] theorem outer_markRailLost (k) : (s.markRailLost k).outer = s.outer := by unfold markRailLost; split <;> simp
@[simp] theorem outer_faultLease (k f) : (s.faultLease k f).outer = s.outer := by
  unfold faultLease; split <;> [(simp only; split <;> simp); rfl]
@[simp] theorem outer_faultPath (k f) : (s.faultPath k f).outer = s.outer := by unfold faultPath; split <;> simp
@[simp] theorem outer_railLossLease (k) : (s.railLossLease k).outer = s.outer := by
  unfold railLossLease; repeat' split
  all_goals simp
@[simp] theorem outer_freeTesting (cs) : (s.freeTesting cs).outer = s.outer :=
  foldl_outer (fun s c => by split <;> simp) ..
@[simp] theorem outer_stopCellUnderTest (t) : (s.stopCellUnderTest t).outer = s.outer := by
  unfold stopCellUnderTest; split <;> simp
@[simp] theorem outer_finishTest (b) : (s.finishTest b).outer = s.outer := by simp [finishTest]
@[simp] theorem outer_abortTest (t) : (s.abortTest t).outer = s.outer := by simp [abortTest]
@[simp] theorem outer_loseTest (b) : (s.loseTest b).outer = s.outer := by
  unfold loseTest; split <;> [split <;> simp; rfl]
@[simp] theorem outer_startTestStep (t c r k) : (s.startTestStep t c r k).outer = s.outer := by simp [startTestStep]
@[simp] theorem outer_railUpNotice (b) : (s.railUpNotice b).outer = s.outer := by
  unfold railUpNotice; repeat' split
  all_goals simp
@[simp] theorem outer_railLoss (b) : (s.railLoss b).outer = s.outer := by
  simp only [railLoss, outer_rescanIf, outer_loseTest]
  rw [foldl_outer (by simp)]; simp
@[simp] theorem outer_startTest (b o) : (s.startTest b o).outer = s.outer := by
  have h : ∀ cs : List (Fin 24), (cs.foldl (fun s c => s.setCell c { s.cell c with state := .testing }) s).outer = s.outer :=
    fun cs => foldl_outer (by simp) ..
  unfold startTest; simp only; split <;> simp [h]
@[simp] theorem outer_endCellTest (t c st r) : (s.endCellTest t c st r).outer = s.outer := by
  unfold endCellTest; simp only; split <;> simp
@[simp] theorem outer_completeTestStep (n) : (s.completeTestStep n).outer = s.outer := by
  unfold completeTestStep; repeat' split
  all_goals simp

/-! ## Pool Control -/

@[simp] theorem outer_dropLingerParts : s.dropLingerParts.outer = s.outer := rfl
@[simp] theorem outer_enterHold (c) : (s.enterHold c).outer = s.outer := by unfold enterHold; split <;> simp
@[simp] theorem outer_fireTrip (n) : (s.fireTrip n).outer = s.outer := by simp [fireTrip]
@[simp] theorem outer_matchNotice (n) : (s.matchNotice n).outer = s.outer :=
  foldl_outer (fun s i => by split <;> simp) ..
@[simp] theorem outer_takeFaultNotice : s.takeFaultNotice.outer = s.outer := by unfold takeFaultNotice; split <;> simp
@[simp] theorem outer_takeScanResult : s.takeScanResult.outer = s.outer := by
  unfold takeScanResult; split <;> [split <;> simp; rfl]

/-! ## Events of the device -/

@[simp] theorem outer_setRailGood (b v) : (s.setRailGood b v).outer = s.outer := rfl
@[simp] theorem outer_railGoodRise (b) : (s.railGoodRise b).outer = s.outer := by
  unfold railGoodRise; simp only; split <;> simp
@[simp] theorem outer_railGoodFall (b) : (s.railGoodFall b).outer = s.outer := by
  unfold railGoodFall; simp only; split <;> simp
@[simp] theorem outer_wakeTimeout (b) : (s.wakeTimeout b).outer = s.outer := by unfold wakeTimeout; split <;> simp
@[simp] theorem outer_lingerExpiry (b) : (s.lingerExpiry b).outer = s.outer := by
  unfold lingerExpiry; repeat' split
  all_goals simp
@[simp] theorem outer_lingerSecond (b) : (s.lingerSecond b).outer = s.outer := by
  unfold lingerSecond; repeat' split
  all_goals simp
@[simp] theorem outer_bankOnLease (b k) : (s.bankOnLease b k).outer = s.outer := by
  unfold bankOnLease; split <;> [split <;> simp; rfl]
@[simp] theorem outer_takeBankOn (b) : (s.takeBankOn b).outer = s.outer := by
  unfold takeBankOn; split
  · rw [foldl_outer (by simp)]; simp
  · rfl
@[simp] theorem outer_rampStep (k) : (s.rampStep k).outer = s.outer := by
  unfold rampStep; repeat' split
  all_goals simp
@[simp] theorem outer_durationExpiry (k) : (s.durationExpiry k).outer = s.outer := by
  unfold durationExpiry; repeat' split
  all_goals simp
@[simp] theorem outer_durationSecond (k) : (s.durationSecond k).outer = s.outer := by
  unfold durationSecond; repeat' split
  all_goals simp
@[simp] theorem outer_waitTimerExpiry (k) : (s.waitTimerExpiry k).outer = s.outer := by
  unfold waitTimerExpiry; repeat' split
  all_goals first | rfl | exact s.outer_putLease ..
@[simp] theorem outer_waitSecond (k) : (s.waitSecond k).outer = s.outer := by
  unfold waitSecond; repeat' split
  all_goals simp
@[simp] theorem outer_takeWaitExpiry (h) : (s.takeWaitExpiry h).outer = s.outer := by
  unfold takeWaitExpiry; repeat' split
  all_goals (simp only; repeat' split)
  all_goals simp
@[simp] theorem outer_keepaliveExpiry (x) : (s.keepaliveExpiry x).outer = s.outer := by
  unfold keepaliveExpiry; repeat' split
  all_goals simp
@[simp] theorem outer_keepaliveSecond (x) : (s.keepaliveSecond x).outer = s.outer := by
  unfold keepaliveSecond; repeat' split
  all_goals simp
@[simp] theorem outer_lapseLease (p k) : (s.lapseLease p k).outer = s.outer := by
  unfold lapseLease; repeat' split
  all_goals simp
@[simp] theorem outer_carryOutLapse (n) : (s.carryOutLapse n).outer = s.outer := by
  simp only [carryOutLapse, outer_rescanIf]; exact foldl_outer (by simp) ..
@[simp] theorem outer_takeLapseNotice (x) : (s.takeLapseNotice x).outer = s.outer := by
  unfold takeLapseNotice; split <;> simp
@[simp] theorem outer_completeConversion (m) : (s.completeConversion m).outer = s.outer := by
  unfold completeConversion; repeat' split
  all_goals simp
@[simp] theorem outer_dwellElapses : s.dwellElapses.outer = s.outer := by unfold dwellElapses; split <;> simp
@[simp] theorem outer_enterActive (k) : (s.enterActive k).outer = s.outer := by unfold enterActive; split <;> simp
@[simp] theorem outer_applyVerify (k l r) : (s.applyVerify k l r).outer = s.outer := by
  unfold applyVerify; simp only; split <;> [skip; split]
  all_goals simp
@[simp] theorem outer_trimStep (k n) : (s.trimStep k n).outer = s.outer := by
  unfold trimStep; repeat' split
  all_goals try simp only
  all_goals repeat' split
  all_goals simp
@[simp] theorem outer_judgeScan (k l r) : (s.judgeScan k l r).outer = s.outer := by
  unfold judgeScan; repeat' split
  all_goals simp
@[simp] theorem outer_deliverResult : s.deliverResult.outer = s.outer := by
  unfold deliverResult; repeat' split
  all_goals (simp only; repeat' split)
  all_goals simp

end Sys2Proof.Machine.State
end

