-- ==== Sys2Proof/Laws/Shared.lean ====
section
/-! SUPPORT. What the shared operations do, said once: `request`, `withRecord`, `event`, `settle`, `respond`, `rescan`. -/

namespace Sys2Proof.Machine

open State

/-! ## Requests (R131, R167) -/

/-- A request that passes its seat checks answers with its body's reply. -/
theorem request_accepted {i : Instr} {x : Seat} {c : RequestClass} {p : List Byte} {body : State → Reply} {s : State}
    (hd : s.mayDispatch x (frameOf i) = true) (hc : s.taken.seatCheck x c = none) :
    request i x c p body s = .next ((body s.taken).state.respond i x (body s.taken).status (body s.taken).payload) := by
  simp [request, hd, hc]

/-- A request refused at its seat checks leaves the state it was taken in, but for its response. -/
theorem request_refused {i : Instr} {x : Seat} {c : RequestClass} {p : List Byte} {body : State → Reply} {s : State}
    {st : Status} (hd : s.mayDispatch x (frameOf i) = true) (hc : s.taken.seatCheck x c = some st) :
    request i x c p body s = .next (s.taken.respond i x st p) := by
  simp [request, hd, hc]

/-- A request whose frame is not the one to be dispatched has no effect (log 1). -/
theorem request_undispatched {i : Instr} {x : Seat} {c : RequestClass} {p : List Byte} {body : State → Reply} {s : State}
    (hd : s.mayDispatch x (frameOf i) = false) : request i x c p body s = .next s := by
  simp [request, hd]

/-- A request always answers a next state. -/
theorem request_next (i : Instr) (x : Seat) (c : RequestClass) (p : List Byte) (body : State → Reply) (s : State) :
    ∃ t, request i x c p body s = .next t := by
  unfold request; split
  · split <;> exact ⟨_, rfl⟩
  · exact ⟨_, rfl⟩

/-- A handle that names no record. -/
theorem withRecord_unknown {x : Seat} {h : Handle} {s : State} {body : Fin 32 → Lease → Reply} (hr : s.resolve h = none) :
    withRecord x h s body = refuse s .unknownHandle := by simp [withRecord, hr]

/-- A record of another seat, to a tenant. -/
theorem withRecord_notOwner {x : Seat} {h : Handle} {s : State} {body : Fin 32 → Lease → Reply} {k : Fin 32} {l : Lease}
    (hr : s.resolve h = some (k, l)) (hx : x ≠ .s) (ho : l.owner ≠ x) :
    withRecord x h s body = refuse s .notOwner := by simp [withRecord, hr, hx, ho]

/-- A record the seat may name. -/
theorem withRecord_found {x : Seat} {h : Handle} {s : State} {body : Fin 32 → Lease → Reply} {k : Fin 32} {l : Lease}
    (hr : s.resolve h = some (k, l)) (ho : x = .s ∨ l.owner = x) : withRecord x h s body = body k l := by
  rcases ho with ho | ho <;> simp [withRecord, hr, ho]

/-! ## Responses -/

@[simp] theorem respond_page (s : State) (i : Instr) (x y : Seat) (st : Status) (p : List Byte) :
    (s.respond i x st p).page y = if x = y then ⟨st.code, codeOf i, p⟩ else s.page y := by
  simp [respond, answer]

@[simp] theorem respond_busy (s : State) (i : Instr) (x y : Seat) (st : Status) (p : List Byte) :
    (s.respond i x st p).busy y = if x = y then false else s.busy y := by
  simp [respond, answer]

@[simp] theorem respond_port_requestQueue (s : State) (i : Instr) (x : Seat) (st : Status) (p : List Byte) :
    (s.respond i x st p).port.requestQueue = s.port.requestQueue := rfl

@[simp] theorem respond_port_transaction (s : State) (i : Instr) (x : Seat) (st : Status) (p : List Byte) :
    (s.respond i x st p).port.transaction = s.port.transaction := rfl

@[simp] theorem respond_engine (s : State) (i : Instr) (x : Seat) (st : Status) (p : List Byte) :
    (s.respond i x st p).engine = s.engine := rfl

@[simp] theorem respond_lease (s : State) (i : Instr) (x : Seat) (st : Status) (p : List Byte) (k : Fin 32) :
    (s.respond i x st p).lease? k = s.lease? k := rfl

@[simp] theorem respond_slot (s : State) (i : Instr) (x : Seat) (st : Status) (p : List Byte) (k : Fin 32) :
    (s.respond i x st p).slot k = s.slot k := rfl

@[simp] theorem respond_seat (s : State) (i : Instr) (x y : Seat) (st : Status) (p : List Byte) :
    (s.respond i x st p).seat y = s.seat y := rfl

@[simp] theorem respond_cell (s : State) (i : Instr) (x : Seat) (st : Status) (p : List Byte) (c : Fin 24) :
    (s.respond i x st p).cell c = s.cell c := rfl

@[simp] theorem respond_committed (s : State) (i : Instr) (x : Seat) (st : Status) (p : List Byte) (b : Fin 4) :
    (s.respond i x st p).committed b = s.committed b := rfl

@[simp] theorem respond_waitList (s : State) (i : Instr) (x : Seat) (st : Status) (p : List Byte) :
    (s.respond i x st p).allocator.waitList = s.allocator.waitList := rfl

@[simp] theorem respond_cellArray (s : State) (i : Instr) (x : Seat) (st : Status) (p : List Byte) :
    (s.respond i x st p).cellArray = s.cellArray := rfl

@[simp] theorem respond_meas (s : State) (i : Instr) (x : Seat) (st : Status) (p : List Byte) :
    (s.respond i x st p).meas = s.meas := rfl

@[simp] theorem respond_pool (s : State) (i : Instr) (x : Seat) (st : Status) (p : List Byte) :
    (s.respond i x st p).pool = s.pool := rfl

@[simp] theorem respond_pending (s : State) (i : Instr) (x : Seat) (st : Status) (p : List Byte) :
    (s.respond i x st p).pending = s.pending := rfl

@[simp] theorem respond_straps (s : State) (i : Instr) (x : Seat) (st : Status) (p : List Byte) :
    (s.respond i x st p).straps = s.straps := rfl

/-! ## Events of the device and due completions (R73) -/

/-- An event always answers a next state. -/
theorem event_next (act : State → State) (s : State) : event act s = .next (act s.settle).driveOutputs := rfl

/-- With no zero-time ramp in flight nothing is due. -/
theorem settle_of_none {s : State} (h : s.dueSlot = none) : s.settle = s := by
  unfold settle
  generalize 32 + s.allocator.waitList.length = n
  cases n with
  | zero => rfl
  | succ n => simp [settleWithin, h]

/-- With no zero-time ramp in flight a request is taken in the state it finds, less its frame. -/
theorem taken_of_none {s : State} (h : s.dueSlot = none) : s.taken = s.dequeue := by simp [taken, settle_of_none h]

/-! ## Rescans (R62, R63) -/

/-- No rescan is taken in HOLD. -/
theorem rescan_of_held {s : State} (h : s.held = true) : s.rescan = s := by simp [rescan, h]

/-- With no waiting lease a rescan changes nothing. -/
theorem rescan_of_empty {s : State} (h : s.allocator.waitList = []) : s.rescan = s := by
  simp [rescan, h]

theorem rescanIf_false (s : State) : s.rescanIf false = s := rfl

theorem rescanIf_true (s : State) : s.rescanIf true = s.rescan := rfl

/-! ## Indices and lists -/

/-- A fold of a step that leaves a state alone at every element leaves it alone. -/
theorem foldl_fixed {α σ : Type} {f : σ → α → σ} {s : σ} {l : List α} (h : ∀ a ∈ l, f s a = s) : l.foldl f s = s := by
  induction l with
  | nil => rfl
  | cons a l ih =>
    rw [List.foldl_cons, h a (by simp)]
    exact ih fun b hb => h b (by simp [hb])

end Sys2Proof.Machine
end

