-- ==== Sys2Proof/Laws/Bodies.lean ====
section
/-! SUPPORT. The bodies of the requests leave the outside alone, and each request command is one `request` of its seat and class. -/

namespace Sys2Proof.Machine

open State

@[simp] theorem accept_state (s : State) : (accept s).state = s := rfl
@[simp] theorem refuse_state (s : State) (st : Status) : (refuse s st).state = s := rfl
@[simp] theorem refuseOpen_state (s : State) (st : Status) (r : Option SubReason) : (refuseOpen s st r).state = s := rfl

theorem withRecord_outer {x h s body} (hb : ∀ k l, (body k l).state.outer = s.outer) : (withRecord x h s body).state.outer = s.outer := by
  unfold withRecord; split
  · rfl
  · split
    · rfl
    · apply hb


@[simp] theorem outer_enterWaiting (s : State) (k l) : (s.enterWaiting k l).outer = s.outer := s.outer_putLease ..
@[simp] theorem outer_openBody (x p s) : (openBody x p s).state.outer = s.outer := by
  unfold openBody; repeat' split
  all_goals try simp only
  all_goals repeat' split
  all_goals simp
@[simp] theorem outer_adjustWaiting (p k l s) : (adjustWaiting p k l s).state.outer = s.outer := by
  unfold adjustWaiting; repeat' split
  all_goals try simp only
  all_goals repeat' split
  all_goals simp
@[simp] theorem outer_retarget (s : State) (k l a t) : (s.retarget k l a t).outer = s.outer := by simp [retarget]
@[simp] theorem outer_freeLeaving (s : State) (k) : (s.freeLeaving k).outer = s.outer := by
  unfold freeLeaving; repeat' split
  all_goals simp
@[simp] theorem outer_adjustHolding (p k l b s) : (adjustHolding p k l b s).state.outer = s.outer := by
  unfold adjustHolding; repeat' split
  all_goals try simp only
  all_goals simp
@[simp] theorem outer_adjustBody (x p s) : (adjustBody x p s).state.outer = s.outer := by
  unfold adjustBody; apply withRecord_outer; intro k l
  split <;> simp
@[simp] theorem outer_stopByRequest (s : State) (x k l d) : (s.stopByRequest x k l d).outer = s.outer := by
  unfold stopByRequest; simp only; split <;> simp
@[simp] theorem outer_closeWaitingByRequest (s : State) (x k l d) : (s.closeWaitingByRequest x k l d).outer = s.outer := by
  unfold closeWaitingByRequest; simp only; split <;> simp
@[simp] theorem outer_suspendLease (x k l s) : (suspendLease x k l s).state.outer = s.outer := by
  unfold suspendLease; split <;> simp
@[simp] theorem outer_resumeLease (k l s) : (resumeLease k l s).state.outer = s.outer := by
  unfold resumeLease; repeat' split
  all_goals simp
@[simp] theorem outer_cancelLease (x k l s) : (cancelLease x k l s).state.outer = s.outer := by
  unfold cancelLease; split <;> simp
@[simp] theorem outer_purgeLease (x k l s) : (purgeLease x k l s).state.outer = s.outer := by
  unfold purgeLease; split <;> simp
@[simp] theorem outer_readRecord (s : State) (x k l) : (s.readRecord x k l).state.outer = s.outer := by
  unfold readRecord; simp only; split <;> simp
@[simp] theorem outer_walkBody (x s) : (walkBody x s).state.outer = s.outer := by
  unfold walkBody; simp only; repeat' split
  all_goals simp
@[simp] theorem outer_listFirstBody (x f s) : (listFirstBody x f s).state.outer = s.outer := by
  unfold listFirstBody; split <;> simp
@[simp] theorem outer_groupActionApply (a : GroupAction) (x k l s) : (a.apply x k l s).state.outer = s.outer := by
  unfold GroupAction.apply; split <;> simp
@[simp] theorem outer_groupVisit (x t a o g k) : (GroupRun.visit x t a o g k).state.outer = g.state.outer := by
  unfold GroupRun.visit; simp only; repeat' split
  all_goals simp
@[simp] theorem outer_groupFold (x t a o) (l : List (Fin 32)) (g : GroupRun) : (l.foldl (GroupRun.visit x t a o) g).state.outer = g.state.outer := by
  induction l generalizing g with
  | nil => rfl
  | cons k l ih => rw [List.foldl_cons, ih, outer_groupVisit]
@[simp] theorem outer_groupBody (x t a y s) : (groupBody x t a y s).state.outer = s.outer := by
  unfold groupBody; repeat' split
  all_goals simp
@[simp] theorem outer_touchBody (x s) : (touchBody x s).state.outer = s.outer := by
  unfold touchBody; split <;> simp [setKeepalive]
@[simp] theorem outer_eventsBody (x a m s) : (eventsBody x a m s).state.outer = s.outer := by
  unfold eventsBody; split
  · simp
  · simp only; split <;> simp
@[simp] theorem outer_applySeatSet (s : State) (q) : (s.applySeatSet q).outer = s.outer := by
  unfold applySeatSet; simp only [outer_rescanIf]; repeat' split
  all_goals simp
@[simp] theorem outer_seatSetBody (p s) : (seatSetBody p s).state.outer = s.outer := by
  unfold seatSetBody; repeat' split
  all_goals simp
@[simp] theorem outer_bankSetBody (p s) : (bankSetBody p s).state.outer = s.outer := by
  unfold bankSetBody; repeat' split
  all_goals try simp [applyBankSet]
  all_goals repeat' split
  all_goals simp
@[simp] theorem outer_bankClearBody (p s) : (bankClearBody p s).state.outer = s.outer := by
  unfold bankClearBody; repeat' split
  all_goals simp
@[simp] theorem outer_cellOutBody (p s) : (cellOutBody p s).state.outer = s.outer := by
  unfold cellOutBody; repeat' split
  all_goals simp
@[simp] theorem outer_cellInBody (p s) : (cellInBody p s).state.outer = s.outer := by
  unfold cellInBody; repeat' split
  all_goals simp
@[simp] theorem outer_terminalSetBody (t m s) : (terminalSetBody t m s).state.outer = s.outer := by
  unfold terminalSetBody; split <;> simp
@[simp] theorem outer_cellQueryBody (p s) : (cellQueryBody p s).state.outer = s.outer := by
  unfold cellQueryBody; split <;> simp
@[simp] theorem outer_cellTestBody (b o s) : (cellTestBody b o s).state.outer = s.outer := by
  unfold cellTestBody; repeat' split
  all_goals simp
@[simp] theorem outer_testAbortBody (s) : (testAbortBody s).state.outer = s.outer := by
  unfold testAbortBody; repeat' split
  all_goals simp
@[simp] theorem outer_holdBody (a s) : (holdBody a s).state.outer = s.outer := by
  unfold holdBody; split
  · simp
  · exact outer_enterHold ..
@[simp] theorem outer_runBody (s) : (runBody s).state.outer = s.outer := by
  unfold runBody; split <;> simp
@[simp] theorem outer_tripSetBody (p s) : (tripSetBody p s).state.outer = s.outer := by
  unfold tripSetBody; split <;> simp
@[simp] theorem outer_tripFireBody (e s) : (tripFireBody e s).state.outer = s.outer := by
  unfold tripFireBody; split <;> simp
@[simp] theorem outer_scanSetBody (p s) : (scanSetBody p s).state.outer = s.outer := by
  unfold scanSetBody; split <;> simp
@[simp] theorem outer_scanStartBody (s) : (scanStartBody s).state.outer = s.outer := by simp [scanStartBody]
@[simp] theorem outer_scanStopBody (s) : (scanStopBody s).state.outer = s.outer := by simp [scanStopBody]

/-! ## Handles stay sound (R2) -/

theorem handlesSound_of_outer {s t : State} (h : t.outer = s.outer) (hs : s.handlesSound) : t.handlesSound := by
  intro k
  have hg : (t.slot k).gen = (s.slot k).gen := congrFun (Prod.mk.inj (Prod.mk.inj (Prod.mk.inj h).2).2).2 k
  have := hs k
  rwa [handleAt, hg]

/-- An advance of a generation never makes the handle 0xFF (R2). -/
theorem handleOf_nextGen (k : Fin 32) (g : Fin 8) (h : handleOf k g ≠ Config.noLease) :
    handleOf k (nextGen k g) ≠ Config.noLease := by revert k g; decide

theorem handlesSound_emptySlot {s : State} (k : Fin 32) (hs : s.handlesSound) : (s.emptySlot k).handlesSound := by
  intro j
  have := hs j
  simp only [handleAt, emptySlot, slot_setSlot] at this ⊢
  split
  · rename_i h; subst h; exact handleOf_nextGen _ _ this
  · exact this

/-! ## Request commands -/

/-- What a request refused at its seat checks carries: a refused OPEN its handle field and sub-reason, every other nothing (R48, R168). -/
def refusedPayload : Instr → List Byte
  | .openLease _ _ => openPayload none none
  | _ => []

/-- What a request's body leaves alone. -/
structure Inner (body : State → Reply) : Prop where
  port : ∀ s, (body s).state.port = s.port
  straps : ∀ s, (body s).state.straps = s.straps
  pending : ∀ s, (body s).state.pending = s.pending
  handles : ∀ s : State, s.handlesSound → (body s).state.handlesSound

theorem Inner.of_outer {body : State → Reply} (h : ∀ s, (body s).state.outer = s.outer) : Inner body where
  port s := (Prod.mk.inj (h s)).1
  straps s := (Prod.mk.inj (Prod.mk.inj (h s)).2).1
  pending s := (Prod.mk.inj (Prod.mk.inj (Prod.mk.inj (h s)).2).2).1
  handles s hs := handlesSound_of_outer (h s) hs

theorem inner_releaseLease (k : Fin 32) (l : Lease) (s : State) :
    (releaseLease k l s).state.port = s.port ∧ (releaseLease k l s).state.straps = s.straps ∧
      (releaseLease k l s).state.pending = s.pending ∧ (s.handlesSound → (releaseLease k l s).state.handlesSound) := by
  unfold releaseLease
  split
  · exact ⟨rfl, rfl, rfl, handlesSound_emptySlot k⟩
  all_goals exact ⟨rfl, rfl, rfl, id⟩

theorem inner_release (x : Seat) (h : Handle) : Inner fun s => withRecord x h s fun k l => releaseLease k l s := by
  have key : ∀ s : State, (withRecord x h s fun k l => releaseLease k l s).state = s ∨
      ∃ k l, (withRecord x h s fun k l => releaseLease k l s).state = (releaseLease k l s).state := by
    intro s
    unfold withRecord
    split
    · exact .inl rfl
    · split
      · exact .inl rfl
      · exact .inr ⟨_, _, rfl⟩
  constructor <;> intro s <;> obtain h | ⟨k, l, h⟩ := key s <;> simp only [h]
  · exact (inner_releaseLease k l s).1
  · exact (inner_releaseLease k l s).2.1
  · exact (inner_releaseLease k l s).2.2.1
  · exact id
  · exact (inner_releaseLease k l s).2.2.2

theorem handlesSound_restarted {s : State} (hs : s.handlesSound) : s.restarted.handlesSound := by
  intro k
  have := hs k
  have hg : (s.restarted.slot k).gen = ((s.slot k).restarted k).gen := by simp [restarted, slot]
  rw [handleAt, hg, Slot.restarted]
  split
  · exact handleOf_nextGen _ _ this
  · exact this

theorem inner_restart : Inner fun s => accept s.restarted where
  port _ := rfl
  straps _ := rfl
  pending _ := rfl
  handles _ hs := handlesSound_restarted hs

/-- Each request command is one `request` of its seat and class, with a body that leaves the outside alone. -/
theorem exec_request {i : Instr} {x : Seat} {c : RequestClass} (h : requestOf i = some (x, c)) :
    ∃ body, Inner body ∧ ∀ s, exec i s = request i x c (refusedPayload i) body s := by
  cases i
  case release => cases h; exact ⟨_, inner_release .., fun _ => rfl⟩
  case restart => cases h; exact ⟨_, inner_restart, fun _ => rfl⟩
  case suspend x h => cases h; exact ⟨fun s => withRecord x h s fun k l => suspendLease x k l s,
                        .of_outer fun s => withRecord_outer fun k l => by simp, fun _ => rfl⟩
  case resume x h => cases h; exact ⟨fun s => withRecord x h s fun k l => resumeLease k l s,
                       .of_outer fun s => withRecord_outer fun k l => by simp, fun _ => rfl⟩
  case cancel x h => cases h; exact ⟨fun s => withRecord x h s fun k l => cancelLease x k l s,
                       .of_outer fun s => withRecord_outer fun k l => by simp, fun _ => rfl⟩
  case query x h => cases h; exact ⟨fun s => withRecord x h s fun k l => s.readRecord x k l,
                      .of_outer fun s => withRecord_outer fun k l => by simp, fun _ => rfl⟩
  case purge x h => cases h; exact ⟨fun s => withRecord x h s fun k l => purgeLease x k l s,
                      .of_outer fun s => withRecord_outer fun k l => by simp, fun _ => rfl⟩
  case status => cases h; exact ⟨fun s => ⟨s, .ok, s.statusPayload⟩, .of_outer fun s => rfl, fun _ => rfl⟩
  all_goals cases h
  all_goals exact ⟨_, Inner.of_outer fun s => (by simp : State.outer (Reply.state _) = _), fun _ => rfl⟩

/-- A response keeps the handles sound. -/
theorem handlesSound_respond {s : State} (i : Instr) (x : Seat) (st : Status) (p : List Byte) (hs : s.handlesSound) :
    (s.respond i x st p).handlesSound := hs

end Sys2Proof.Machine
end

