-- ==== Sys2Proof/Laws/Cells.lean ====
section
/-! SUPPORT. What the operations over a list of cells do: they write codes and cell entries, one cell at a time, and nothing else. -/

namespace Sys2Proof.Machine.State

variable (s : State)

/-! ## `freeCells` -/

@[simp] theorem freeCells_port (cs : List (Fin 24)) : (s.freeCells cs).port = s.port := by
  unfold freeCells
  induction cs generalizing s with
  | nil => rfl
  | cons c cs ih => rw [List.foldl_cons, ih]; rfl

@[simp] theorem freeCells_seatCtl (cs : List (Fin 24)) : (s.freeCells cs).seatCtl = s.seatCtl := by
  unfold freeCells
  induction cs generalizing s with
  | nil => rfl
  | cons c cs ih => rw [List.foldl_cons, ih]; rfl

@[simp] theorem freeCells_engine (cs : List (Fin 24)) : (s.freeCells cs).engine = s.engine := by
  unfold freeCells
  induction cs generalizing s with
  | nil => rfl
  | cons c cs ih => rw [List.foldl_cons, ih]; rfl

@[simp] theorem freeCells_banks (cs : List (Fin 24)) : (s.freeCells cs).banks = s.banks := by
  unfold freeCells
  induction cs generalizing s with
  | nil => rfl
  | cons c cs ih => rw [List.foldl_cons, ih]; rfl

@[simp] theorem freeCells_meas (cs : List (Fin 24)) : (s.freeCells cs).meas = s.meas := by
  unfold freeCells
  induction cs generalizing s with
  | nil => rfl
  | cons c cs ih => rw [List.foldl_cons, ih]; rfl

@[simp] theorem freeCells_pool (cs : List (Fin 24)) : (s.freeCells cs).pool = s.pool := by
  unfold freeCells
  induction cs generalizing s with
  | nil => rfl
  | cons c cs ih => rw [List.foldl_cons, ih]; rfl

@[simp] theorem freeCells_selfTest (cs : List (Fin 24)) : (s.freeCells cs).selfTest = s.selfTest := by
  unfold freeCells
  induction cs generalizing s with
  | nil => rfl
  | cons c cs ih => rw [List.foldl_cons, ih]; rfl

@[simp] theorem freeCells_straps (cs : List (Fin 24)) : (s.freeCells cs).straps = s.straps := by
  unfold freeCells
  induction cs generalizing s with
  | nil => rfl
  | cons c cs ih => rw [List.foldl_cons, ih]; rfl

@[simp] theorem freeCells_pending (cs : List (Fin 24)) : (s.freeCells cs).pending = s.pending := by
  unfold freeCells
  induction cs generalizing s with
  | nil => rfl
  | cons c cs ih => rw [List.foldl_cons, ih]; rfl

@[simp] theorem freeCells_allocator_committed (cs : List (Fin 24)) : (s.freeCells cs).allocator.committed = s.allocator.committed := by
  unfold freeCells
  induction cs generalizing s with
  | nil => rfl
  | cons c cs ih => rw [List.foldl_cons, ih]; rfl

@[simp] theorem freeCells_allocator_terminals (cs : List (Fin 24)) : (s.freeCells cs).allocator.terminals = s.allocator.terminals := by
  unfold freeCells
  induction cs generalizing s with
  | nil => rfl
  | cons c cs ih => rw [List.foldl_cons, ih]; rfl

@[simp] theorem freeCells_allocator_waitList (cs : List (Fin 24)) : (s.freeCells cs).allocator.waitList = s.allocator.waitList := by
  unfold freeCells
  induction cs generalizing s with
  | nil => rfl
  | cons c cs ih => rw [List.foldl_cons, ih]; rfl

@[simp] theorem freeCells_allocator_waitExpiryNotices (cs : List (Fin 24)) : (s.freeCells cs).allocator.waitExpiryNotices = s.allocator.waitExpiryNotices := by
  unfold freeCells
  induction cs generalizing s with
  | nil => rfl
  | cons c cs ih => rw [List.foldl_cons, ih]; rfl

@[simp] theorem slot_freeCells (cs : List (Fin 24)) (k' : Fin 32) : (s.freeCells cs).slot k' = s.slot k' := by
  simp [slot]

@[simp] theorem seat_freeCells (cs : List (Fin 24)) (x : Seat) : (s.freeCells cs).seat x = s.seat x := by
  simp [seat]

@[simp] theorem bank_freeCells (cs : List (Fin 24)) (b : Fin 4) : (s.freeCells cs).bank b = s.bank b := by
  simp [bank]

@[simp] theorem terminal_freeCells (cs : List (Fin 24)) (m : Fin 16) : (s.freeCells cs).terminal m = s.terminal m := by
  simp [terminal]

@[simp] theorem committed_freeCells (cs : List (Fin 24)) (b : Fin 4) : (s.freeCells cs).committed b = s.committed b := by
  simp [committed]

@[simp] theorem lease_freeCells (cs : List (Fin 24)) (k' : Fin 32) : (s.freeCells cs).lease? k' = s.lease? k' := by
  simp [lease?]

@[simp] theorem handleAt_freeCells (cs : List (Fin 24)) (k' : Fin 32) : (s.freeCells cs).handleAt k' = s.handleAt k' := by
  simp [handleAt]

@[simp] theorem resolve_freeCells (cs : List (Fin 24)) (h' : Handle) : (s.freeCells cs).resolve h' = s.resolve h' := by
  simp [resolve]

/-! ## `zeroCodes` -/

@[simp] theorem zeroCodes_port (cs : List (Fin 24)) : (s.zeroCodes cs).port = s.port := by
  unfold zeroCodes
  induction cs generalizing s with
  | nil => rfl
  | cons c cs ih => rw [List.foldl_cons, ih]; rfl

@[simp] theorem zeroCodes_seatCtl (cs : List (Fin 24)) : (s.zeroCodes cs).seatCtl = s.seatCtl := by
  unfold zeroCodes
  induction cs generalizing s with
  | nil => rfl
  | cons c cs ih => rw [List.foldl_cons, ih]; rfl

@[simp] theorem zeroCodes_engine (cs : List (Fin 24)) : (s.zeroCodes cs).engine = s.engine := by
  unfold zeroCodes
  induction cs generalizing s with
  | nil => rfl
  | cons c cs ih => rw [List.foldl_cons, ih]; rfl

@[simp] theorem zeroCodes_banks (cs : List (Fin 24)) : (s.zeroCodes cs).banks = s.banks := by
  unfold zeroCodes
  induction cs generalizing s with
  | nil => rfl
  | cons c cs ih => rw [List.foldl_cons, ih]; rfl

@[simp] theorem zeroCodes_meas (cs : List (Fin 24)) : (s.zeroCodes cs).meas = s.meas := by
  unfold zeroCodes
  induction cs generalizing s with
  | nil => rfl
  | cons c cs ih => rw [List.foldl_cons, ih]; rfl

@[simp] theorem zeroCodes_pool (cs : List (Fin 24)) : (s.zeroCodes cs).pool = s.pool := by
  unfold zeroCodes
  induction cs generalizing s with
  | nil => rfl
  | cons c cs ih => rw [List.foldl_cons, ih]; rfl

@[simp] theorem zeroCodes_selfTest (cs : List (Fin 24)) : (s.zeroCodes cs).selfTest = s.selfTest := by
  unfold zeroCodes
  induction cs generalizing s with
  | nil => rfl
  | cons c cs ih => rw [List.foldl_cons, ih]; rfl

@[simp] theorem zeroCodes_straps (cs : List (Fin 24)) : (s.zeroCodes cs).straps = s.straps := by
  unfold zeroCodes
  induction cs generalizing s with
  | nil => rfl
  | cons c cs ih => rw [List.foldl_cons, ih]; rfl

@[simp] theorem zeroCodes_pending (cs : List (Fin 24)) : (s.zeroCodes cs).pending = s.pending := by
  unfold zeroCodes
  induction cs generalizing s with
  | nil => rfl
  | cons c cs ih => rw [List.foldl_cons, ih]; rfl

@[simp] theorem zeroCodes_allocator (cs : List (Fin 24)) : (s.zeroCodes cs).allocator = s.allocator := by
  unfold zeroCodes
  induction cs generalizing s with
  | nil => rfl
  | cons c cs ih => rw [List.foldl_cons, ih]; rfl

@[simp] theorem slot_zeroCodes (cs : List (Fin 24)) (k' : Fin 32) : (s.zeroCodes cs).slot k' = s.slot k' := by
  simp [slot]

@[simp] theorem seat_zeroCodes (cs : List (Fin 24)) (x : Seat) : (s.zeroCodes cs).seat x = s.seat x := by
  simp [seat]

@[simp] theorem bank_zeroCodes (cs : List (Fin 24)) (b : Fin 4) : (s.zeroCodes cs).bank b = s.bank b := by
  simp [bank]

@[simp] theorem cell_zeroCodes (cs : List (Fin 24)) (c : Fin 24) : (s.zeroCodes cs).cell c = s.cell c := by
  simp [cell]

@[simp] theorem terminal_zeroCodes (cs : List (Fin 24)) (m : Fin 16) : (s.zeroCodes cs).terminal m = s.terminal m := by
  simp [terminal]

@[simp] theorem committed_zeroCodes (cs : List (Fin 24)) (b : Fin 4) : (s.zeroCodes cs).committed b = s.committed b := by
  simp [committed]

@[simp] theorem lease_zeroCodes (cs : List (Fin 24)) (k' : Fin 32) : (s.zeroCodes cs).lease? k' = s.lease? k' := by
  simp [lease?]

@[simp] theorem handleAt_zeroCodes (cs : List (Fin 24)) (k' : Fin 32) : (s.zeroCodes cs).handleAt k' = s.handleAt k' := by
  simp [handleAt]

@[simp] theorem resolve_zeroCodes (cs : List (Fin 24)) (h' : Handle) : (s.zeroCodes cs).resolve h' = s.resolve h' := by
  simp [resolve]

/-! ## `allotCells` -/

@[simp] theorem allotCells_port (h : Handle) (t : Fin 16) (r : Range) (cs : List (Fin 24)) : (s.allotCells h t r cs).port = s.port := by
  unfold allotCells
  induction cs generalizing s with
  | nil => rfl
  | cons c cs ih => rw [List.foldl_cons, ih]; rfl

@[simp] theorem allotCells_seatCtl (h : Handle) (t : Fin 16) (r : Range) (cs : List (Fin 24)) : (s.allotCells h t r cs).seatCtl = s.seatCtl := by
  unfold allotCells
  induction cs generalizing s with
  | nil => rfl
  | cons c cs ih => rw [List.foldl_cons, ih]; rfl

@[simp] theorem allotCells_engine (h : Handle) (t : Fin 16) (r : Range) (cs : List (Fin 24)) : (s.allotCells h t r cs).engine = s.engine := by
  unfold allotCells
  induction cs generalizing s with
  | nil => rfl
  | cons c cs ih => rw [List.foldl_cons, ih]; rfl

@[simp] theorem allotCells_banks (h : Handle) (t : Fin 16) (r : Range) (cs : List (Fin 24)) : (s.allotCells h t r cs).banks = s.banks := by
  unfold allotCells
  induction cs generalizing s with
  | nil => rfl
  | cons c cs ih => rw [List.foldl_cons, ih]; rfl

@[simp] theorem allotCells_meas (h : Handle) (t : Fin 16) (r : Range) (cs : List (Fin 24)) : (s.allotCells h t r cs).meas = s.meas := by
  unfold allotCells
  induction cs generalizing s with
  | nil => rfl
  | cons c cs ih => rw [List.foldl_cons, ih]; rfl

@[simp] theorem allotCells_pool (h : Handle) (t : Fin 16) (r : Range) (cs : List (Fin 24)) : (s.allotCells h t r cs).pool = s.pool := by
  unfold allotCells
  induction cs generalizing s with
  | nil => rfl
  | cons c cs ih => rw [List.foldl_cons, ih]; rfl

@[simp] theorem allotCells_selfTest (h : Handle) (t : Fin 16) (r : Range) (cs : List (Fin 24)) : (s.allotCells h t r cs).selfTest = s.selfTest := by
  unfold allotCells
  induction cs generalizing s with
  | nil => rfl
  | cons c cs ih => rw [List.foldl_cons, ih]; rfl

@[simp] theorem allotCells_straps (h : Handle) (t : Fin 16) (r : Range) (cs : List (Fin 24)) : (s.allotCells h t r cs).straps = s.straps := by
  unfold allotCells
  induction cs generalizing s with
  | nil => rfl
  | cons c cs ih => rw [List.foldl_cons, ih]; rfl

@[simp] theorem allotCells_pending (h : Handle) (t : Fin 16) (r : Range) (cs : List (Fin 24)) : (s.allotCells h t r cs).pending = s.pending := by
  unfold allotCells
  induction cs generalizing s with
  | nil => rfl
  | cons c cs ih => rw [List.foldl_cons, ih]; rfl

@[simp] theorem allotCells_allocator_committed (h : Handle) (t : Fin 16) (r : Range) (cs : List (Fin 24)) : (s.allotCells h t r cs).allocator.committed = s.allocator.committed := by
  unfold allotCells
  induction cs generalizing s with
  | nil => rfl
  | cons c cs ih => rw [List.foldl_cons, ih]; rfl

@[simp] theorem allotCells_allocator_terminals (h : Handle) (t : Fin 16) (r : Range) (cs : List (Fin 24)) : (s.allotCells h t r cs).allocator.terminals = s.allocator.terminals := by
  unfold allotCells
  induction cs generalizing s with
  | nil => rfl
  | cons c cs ih => rw [List.foldl_cons, ih]; rfl

@[simp] theorem allotCells_allocator_waitList (h : Handle) (t : Fin 16) (r : Range) (cs : List (Fin 24)) : (s.allotCells h t r cs).allocator.waitList = s.allocator.waitList := by
  unfold allotCells
  induction cs generalizing s with
  | nil => rfl
  | cons c cs ih => rw [List.foldl_cons, ih]; rfl

@[simp] theorem allotCells_allocator_waitExpiryNotices (h : Handle) (t : Fin 16) (r : Range) (cs : List (Fin 24)) : (s.allotCells h t r cs).allocator.waitExpiryNotices = s.allocator.waitExpiryNotices := by
  unfold allotCells
  induction cs generalizing s with
  | nil => rfl
  | cons c cs ih => rw [List.foldl_cons, ih]; rfl

@[simp] theorem slot_allotCells (h : Handle) (t : Fin 16) (r : Range) (cs : List (Fin 24)) (k' : Fin 32) : (s.allotCells h t r cs).slot k' = s.slot k' := by
  simp [slot]

@[simp] theorem seat_allotCells (h : Handle) (t : Fin 16) (r : Range) (cs : List (Fin 24)) (x : Seat) : (s.allotCells h t r cs).seat x = s.seat x := by
  simp [seat]

@[simp] theorem bank_allotCells (h : Handle) (t : Fin 16) (r : Range) (cs : List (Fin 24)) (b : Fin 4) : (s.allotCells h t r cs).bank b = s.bank b := by
  simp [bank]

@[simp] theorem terminal_allotCells (h : Handle) (t : Fin 16) (r : Range) (cs : List (Fin 24)) (m : Fin 16) : (s.allotCells h t r cs).terminal m = s.terminal m := by
  simp [terminal]

@[simp] theorem committed_allotCells (h : Handle) (t : Fin 16) (r : Range) (cs : List (Fin 24)) (b : Fin 4) : (s.allotCells h t r cs).committed b = s.committed b := by
  simp [committed]

@[simp] theorem lease_allotCells (h : Handle) (t : Fin 16) (r : Range) (cs : List (Fin 24)) (k' : Fin 32) : (s.allotCells h t r cs).lease? k' = s.lease? k' := by
  simp [lease?]

@[simp] theorem handleAt_allotCells (h : Handle) (t : Fin 16) (r : Range) (cs : List (Fin 24)) (k' : Fin 32) : (s.allotCells h t r cs).handleAt k' = s.handleAt k' := by
  simp [handleAt]

@[simp] theorem resolve_allotCells (h : Handle) (t : Fin 16) (r : Range) (cs : List (Fin 24)) (h' : Handle) : (s.allotCells h t r cs).resolve h' = s.resolve h' := by
  simp [resolve]

/-! ## `writeRamp` -/

@[simp] theorem writeRamp_port (cs : List RampCell) (k : Nat) : (s.writeRamp cs k).port = s.port := by
  unfold writeRamp
  induction cs generalizing s with
  | nil => rfl
  | cons c cs ih => rw [List.foldl_cons, ih]; rfl

@[simp] theorem writeRamp_seatCtl (cs : List RampCell) (k : Nat) : (s.writeRamp cs k).seatCtl = s.seatCtl := by
  unfold writeRamp
  induction cs generalizing s with
  | nil => rfl
  | cons c cs ih => rw [List.foldl_cons, ih]; rfl

@[simp] theorem writeRamp_engine (cs : List RampCell) (k : Nat) : (s.writeRamp cs k).engine = s.engine := by
  unfold writeRamp
  induction cs generalizing s with
  | nil => rfl
  | cons c cs ih => rw [List.foldl_cons, ih]; rfl

@[simp] theorem writeRamp_banks (cs : List RampCell) (k : Nat) : (s.writeRamp cs k).banks = s.banks := by
  unfold writeRamp
  induction cs generalizing s with
  | nil => rfl
  | cons c cs ih => rw [List.foldl_cons, ih]; rfl

@[simp] theorem writeRamp_meas (cs : List RampCell) (k : Nat) : (s.writeRamp cs k).meas = s.meas := by
  unfold writeRamp
  induction cs generalizing s with
  | nil => rfl
  | cons c cs ih => rw [List.foldl_cons, ih]; rfl

@[simp] theorem writeRamp_pool (cs : List RampCell) (k : Nat) : (s.writeRamp cs k).pool = s.pool := by
  unfold writeRamp
  induction cs generalizing s with
  | nil => rfl
  | cons c cs ih => rw [List.foldl_cons, ih]; rfl

@[simp] theorem writeRamp_selfTest (cs : List RampCell) (k : Nat) : (s.writeRamp cs k).selfTest = s.selfTest := by
  unfold writeRamp
  induction cs generalizing s with
  | nil => rfl
  | cons c cs ih => rw [List.foldl_cons, ih]; rfl

@[simp] theorem writeRamp_straps (cs : List RampCell) (k : Nat) : (s.writeRamp cs k).straps = s.straps := by
  unfold writeRamp
  induction cs generalizing s with
  | nil => rfl
  | cons c cs ih => rw [List.foldl_cons, ih]; rfl

@[simp] theorem writeRamp_pending (cs : List RampCell) (k : Nat) : (s.writeRamp cs k).pending = s.pending := by
  unfold writeRamp
  induction cs generalizing s with
  | nil => rfl
  | cons c cs ih => rw [List.foldl_cons, ih]; rfl

@[simp] theorem writeRamp_allocator (cs : List RampCell) (k : Nat) : (s.writeRamp cs k).allocator = s.allocator := by
  unfold writeRamp
  induction cs generalizing s with
  | nil => rfl
  | cons c cs ih => rw [List.foldl_cons, ih]; rfl

@[simp] theorem slot_writeRamp (cs : List RampCell) (k : Nat) (k' : Fin 32) : (s.writeRamp cs k).slot k' = s.slot k' := by
  simp [slot]

@[simp] theorem seat_writeRamp (cs : List RampCell) (k : Nat) (x : Seat) : (s.writeRamp cs k).seat x = s.seat x := by
  simp [seat]

@[simp] theorem bank_writeRamp (cs : List RampCell) (k : Nat) (b : Fin 4) : (s.writeRamp cs k).bank b = s.bank b := by
  simp [bank]

@[simp] theorem cell_writeRamp (cs : List RampCell) (k : Nat) (c : Fin 24) : (s.writeRamp cs k).cell c = s.cell c := by
  simp [cell]

@[simp] theorem terminal_writeRamp (cs : List RampCell) (k : Nat) (m : Fin 16) : (s.writeRamp cs k).terminal m = s.terminal m := by
  simp [terminal]

@[simp] theorem committed_writeRamp (cs : List RampCell) (k : Nat) (b : Fin 4) : (s.writeRamp cs k).committed b = s.committed b := by
  simp [committed]

@[simp] theorem lease_writeRamp (cs : List RampCell) (k : Nat) (k' : Fin 32) : (s.writeRamp cs k).lease? k' = s.lease? k' := by
  simp [lease?]

@[simp] theorem handleAt_writeRamp (cs : List RampCell) (k : Nat) (k' : Fin 32) : (s.writeRamp cs k).handleAt k' = s.handleAt k' := by
  simp [handleAt]

@[simp] theorem resolve_writeRamp (cs : List RampCell) (k : Nat) (h' : Handle) : (s.writeRamp cs k).resolve h' = s.resolve h' := by
  simp [resolve]

/-! ## Cell by cell -/

@[simp] theorem drive_zeroCodes (cs : List (Fin 24)) (c : Fin 24) :
    (s.zeroCodes cs).drive c = if c ∈ cs then { s.drive c with code := 0 } else s.drive c := by
  unfold zeroCodes
  induction cs generalizing s with
  | nil => rfl
  | cons d cs ih =>
    rw [List.foldl_cons, ih]
    by_cases hd : d = c
    · subst hd; simp [zeroCode]
    · simp [zeroCode, hd, Ne.symm hd]

@[simp] theorem drive_freeCells (cs : List (Fin 24)) (c : Fin 24) :
    (s.freeCells cs).drive c = if c ∈ cs then { s.drive c with code := 0 } else s.drive c := by
  unfold freeCells
  induction cs generalizing s with
  | nil => rfl
  | cons d cs ih =>
    rw [List.foldl_cons, ih]
    by_cases hd : d = c
    · subst hd; simp [freeCell, zeroCode]
    · simp [freeCell, zeroCode, hd, Ne.symm hd]

@[simp] theorem cell_freeCells (cs : List (Fin 24)) (c : Fin 24) :
    (s.freeCells cs).cell c = if c ∈ cs then { s.cell c with state := .free, route := none } else s.cell c := by
  unfold freeCells
  induction cs generalizing s with
  | nil => rfl
  | cons d cs ih =>
    rw [List.foldl_cons, ih]
    by_cases hd : d = c
    · subst hd; simp [freeCell, zeroCode]
    · simp [freeCell, zeroCode, hd, Ne.symm hd]

@[simp] theorem cell_allotCells (h : Handle) (t : Fin 16) (r : Range) (cs : List (Fin 24)) (c : Fin 24) :
    (s.allotCells h t r cs).cell c = if c ∈ cs then { s.cell c with state := .allotted h, route := some t } else s.cell c := by
  unfold allotCells
  induction cs generalizing s with
  | nil => rfl
  | cons d cs ih =>
    rw [List.foldl_cons, ih]
    by_cases hd : d = c
    · subst hd; simp [allotCell, writeRange]
    · simp [allotCell, writeRange, hd, Ne.symm hd]

@[simp] theorem drive_allotCells (h : Handle) (t : Fin 16) (r : Range) (cs : List (Fin 24)) (c : Fin 24) :
    (s.allotCells h t r cs).drive c = if c ∈ cs then { s.drive c with range := r } else s.drive c := by
  unfold allotCells
  induction cs generalizing s with
  | nil => rfl
  | cons d cs ih =>
    rw [List.foldl_cons, ih]
    by_cases hd : d = c
    · subst hd; simp [allotCell, writeRange]
    · simp [allotCell, writeRange, hd, Ne.symm hd]

/-- Whether a cell may drive does not depend on the codes. -/
@[simp] theorem mayDrive_writeRamp (cs : List RampCell) (k : Nat) (c : Fin 24) :
    (s.writeRamp cs k).mayDrive c = s.mayDrive c := by
  unfold mayDrive; simp

@[simp] theorem range_writeRamp (cs : List RampCell) (k : Nat) (c : Fin 24) :
    ((s.writeRamp cs k).drive c).range = (s.drive c).range := by
  unfold writeRamp
  induction cs generalizing s with
  | nil => rfl
  | cons d cs ih =>
    rw [List.foldl_cons, ih]
    by_cases hd : d.cell = c
    · subst hd; simp [writeCode]
    · simp [writeCode, hd]

/-- A cell outside the ramp keeps its code and range. -/
theorem drive_writeRamp_of_not_mem {cs : List RampCell} {k : Nat} {c : Fin 24} (h : c ∉ cs.map (·.cell)) :
    (s.writeRamp cs k).drive c = s.drive c := by
  unfold writeRamp
  induction cs generalizing s with
  | nil => rfl
  | cons d cs ih =>
    simp only [List.map_cons, List.mem_cons, not_or] at h
    rw [List.foldl_cons, ih _ h.2]
    simp [writeCode, Ne.symm h.1]

/-- A cell of the ramp carries its code at the step, or 0 when it may not drive (R28, R71). -/
theorem code_writeRamp {cs : List RampCell} {k : Nat} {e : RampCell} (he : e ∈ cs)
    (hu : ∀ f ∈ cs, f.cell = e.cell → f = e) :
    ((s.writeRamp cs k).drive e.cell).code = if s.mayDrive e.cell then rampCode e.start e.stop k else 0 := by
  induction cs generalizing s with
  | nil => exact absurd he (by simp)
  | cons d cs ih =>
    have hm : (s.writeCode d.cell (rampCode d.start d.stop k)).mayDrive e.cell = s.mayDrive e.cell := rfl
    have hcons : s.writeRamp (d :: cs) k = (s.writeCode d.cell (rampCode d.start d.stop k)).writeRamp cs k := rfl
    rw [hcons]
    by_cases hmem : e ∈ cs
    · rw [ih _ hmem fun f hf => hu f (by simp [hf]), hm]
    · have hde : d = e := by
        rcases List.mem_cons.1 he with h | h
        · exact h.symm
        · exact absurd h hmem
      subst hde
      rw [drive_writeRamp_of_not_mem]
      · simp [writeCode]
      · simp only [List.mem_map, not_exists, not_and]
        intro f hf hfc
        exact hmem (hu f (by simp [hf]) hfc ▸ hf)

end Sys2Proof.Machine.State
end

