-- ==== Sys2Proof/Laws/Operands.lean ====
section
/-! SUPPORT. When a checked field is good, and what it then holds. -/

namespace Sys2Proof.Machine

theorem index?_eq_some {n v : Nat} {i : Fin n} : index? n v = some i ↔ i.val = v := by
  unfold index?
  split
  · rw [Option.some.injEq, Fin.ext_iff]; exact eq_comm
  · rename_i h
    exact ⟨fun h' => (nomatch h'), fun h' => absurd (h' ▸ i.isLt) h⟩

theorem index?_eq_none {n v : Nat} : index? n v = none ↔ n ≤ v := by simp [index?]

theorem inRange?_eq_some {lo hi v n : Nat} : inRange? lo hi v = some n ↔ lo ≤ v ∧ v ≤ hi ∧ v = n := by
  unfold inRange?
  split <;> rename_i h
  · simp [h.1, h.2]
  · simp only [reduceCtorEq, false_iff]; exact fun h' => h ⟨h'.1, h'.2.1⟩

theorem require_eq_some {good : Bool} {u : Unit} : require good = some u ↔ good = true := by
  cases good <;> simp [require]

theorem optional?_eq_some {α : Type} {present : Bool} {value o : Option α} :
    optional? present value = some o ↔ (present = false ∧ o = none) ∨ (present = true ∧ ∃ a, value = some a ∧ o = some a) := by
  cases present
  · simp [optional?, eq_comm]
  · cases value <;> simp [optional?, eq_comm]

theorem choice?_eq_some {α : Type} {zero one a : α} {v : Byte} :
    choice? zero one v = some a ↔ (v.toNat = 0 ∧ a = zero) ∨ (v.toNat = 1 ∧ a = one) := by
  have h0 : v = 0#8 ↔ v.toNat = 0 := by rw [← BitVec.toNat_inj]; simp
  have h1 : v = 1#8 ↔ v.toNat = 1 := by rw [← BitVec.toNat_inj]; simp
  unfold choice?
  split
  · rename_i h; simp [h, eq_comm]
  · rename_i h
    rw [h0] at h
    split
    · rename_i h'; simp [h', eq_comm]
    · rename_i h'; rw [h1] at h'; simp [h, h']

end Sys2Proof.Machine
end

