-- ==== Sys2Proof/Laws/PerInstr.lean ====
section
/-! SUPPORT. Facts about every command as a term: the frame of a request has a parameter length its code allows (R165, 11.5). -/

namespace Sys2Proof.Laws.FrameLength

/-- The frame a command stands for, if any, has a code of the request code table and a length that code allows. -/
def Statement (i : Instr) : Prop :=
  ∀ f, frameOf i = some f → ∃ ls, allowedLengths f.code = some ls ∧ f.params.length ∈ ls

/-- A command whose frame is known. -/
theorem of_frame {i : Instr} {f : Frame} (hf : frameOf i = some f)
    (hl : (allowedLengths f.code).any (fun ls => ls.contains f.params.length) = true) : Statement i := by
  intro g hg
  cases hf.symm.trans hg
  obtain ⟨ls, h, hm⟩ := (Option.any_eq_true _ _).1 hl
  exact ⟨ls, h, List.contains_iff_mem.1 hm⟩

/-- A command that stands for no frame. -/
theorem of_none {i : Instr} (hf : frameOf i = none) : Statement i := fun _ hg => nomatch hf.symm.trans hg

theorem openLease (x : Seat) (p : OpenParams) : Statement (.openLease x p) := of_frame rfl rfl

theorem adjust (x : Seat) (p : AdjustParams) : Statement (.adjust x p) := of_frame rfl rfl

theorem suspend (x : Seat) (h : Handle) : Statement (.suspend x h) := of_frame rfl rfl

theorem resume (x : Seat) (h : Handle) : Statement (.resume x h) := of_frame rfl rfl

theorem cancel (x : Seat) (h : Handle) : Statement (.cancel x h) := of_frame rfl rfl

theorem release (x : Seat) (h : Handle) : Statement (.release x h) := of_frame rfl rfl

theorem query (x : Seat) (h : Handle) : Statement (.query x h) := of_frame rfl rfl

theorem listFirst (x : Seat) (filter : Option Byte) : Statement (.listFirst x filter) := by
  cases filter <;> exact of_frame rfl rfl

theorem listNext (x : Seat) : Statement (.listNext x) := of_frame rfl rfl

theorem group (x : Seat) (tag action seat : Byte) : Statement (.group x tag action seat) := of_frame rfl rfl

theorem touch (x : Seat) : Statement (.touch x) := of_frame rfl rfl

theorem events (x : Seat) (ack : BitVec 16) (mask : Option (BitVec 16)) : Statement (.events x ack mask) := by
  cases mask <;> exact of_frame rfl rfl

theorem status (x : Seat) : Statement (.status x) := of_frame rfl rfl

theorem seatSet (x : Seat) (p : SeatSetParams) : Statement (.seatSet x p) := of_frame rfl rfl

theorem bankSet (x : Seat) (p : BankSetParams) : Statement (.bankSet x p) := of_frame rfl rfl

theorem bankClear (x : Seat) (bank : Byte) : Statement (.bankClear x bank) := of_frame rfl rfl

theorem scanSet (x : Seat) (p : ScanSetParams) : Statement (.scanSet x p) := of_frame rfl rfl

theorem scanStart (x : Seat) : Statement (.scanStart x) := of_frame rfl rfl

theorem scanStop (x : Seat) : Statement (.scanStop x) := of_frame rfl rfl

theorem cellTest (x : Seat) (bank option : Byte) : Statement (.cellTest x bank option) := of_frame rfl rfl

theorem testAbort (x : Seat) : Statement (.testAbort x) := of_frame rfl rfl

theorem cellOut (x : Seat) (cell : Byte) : Statement (.cellOut x cell) := of_frame rfl rfl

theorem cellIn (x : Seat) (cell : Byte) : Statement (.cellIn x cell) := of_frame rfl rfl

theorem terminalSet (x : Seat) (terminal mode : Byte) : Statement (.terminalSet x terminal mode) := of_frame rfl rfl

theorem hold (x : Seat) (ack : Option Byte) : Statement (.hold x ack) := by
  cases ack <;> exact of_frame rfl rfl

theorem run (x : Seat) : Statement (.run x) := of_frame rfl rfl

theorem tripSet (x : Seat) (p : TripSetParams) : Statement (.tripSet x p) := of_frame rfl rfl

theorem tripFire (x : Seat) (entry : Byte) : Statement (.tripFire x entry) := of_frame rfl rfl

theorem purge (x : Seat) (h : Handle) : Statement (.purge x h) := of_frame rfl rfl

theorem restart (x : Seat) : Statement (.restart x) := of_frame rfl rfl

theorem cellQuery (x : Seat) (bank : Byte) : Statement (.cellQuery x bank) := of_frame rfl rfl

theorem writeAddress (address : BitVec 7) : Statement (.writeAddress address) := of_none rfl

theorem writeEnd : Statement .writeEnd := of_none rfl

theorem readPage (address : BitVec 7) (count : Nat) : Statement (.readPage address count) := of_none rfl

theorem powerOnReset (straps : Straps) : Statement (.powerOnReset straps) := of_none rfl

theorem pinReset (straps : Straps) : Statement (.pinReset straps) := of_none rfl

theorem railGoodRise (bank : Fin 4) : Statement (.railGoodRise bank) := of_none rfl

theorem railGoodFall (bank : Fin 4) : Statement (.railGoodFall bank) := of_none rfl

theorem wakeTimeout (bank : Fin 4) : Statement (.wakeTimeout bank) := of_none rfl

theorem lingerExpiry (bank : Fin 4) : Statement (.lingerExpiry bank) := of_none rfl

theorem bankOnNotice (bank : Fin 4) : Statement (.bankOnNotice bank) := of_none rfl

theorem rampStep (slot : Fin 32) : Statement (.rampStep slot) := of_none rfl

theorem rampComplete (slot : Fin 32) : Statement (.rampComplete slot) := of_none rfl

theorem durationExpiry (slot : Fin 32) : Statement (.durationExpiry slot) := of_none rfl

theorem waitTimerExpiry (slot : Fin 32) : Statement (.waitTimerExpiry slot) := of_none rfl

theorem waitExpiryNotice (h : Handle) : Statement (.waitExpiryNotice h) := of_none rfl

theorem keepaliveExpiry (x : Seat) : Statement (.keepaliveExpiry x) := of_none rfl

theorem lapseNotice (x : Seat) : Statement (.lapseNotice x) := of_none rfl

theorem conversionComplete (m : Samples) : Statement (.conversionComplete m) := of_none rfl

theorem dwellElapses : Statement .dwellElapses := of_none rfl

theorem resultDelivery : Statement .resultDelivery := of_none rfl

theorem faultNotice : Statement .faultNotice := of_none rfl

theorem scanResultMatch : Statement .scanResultMatch := of_none rfl

theorem testStepComplete (loadNanoamps : Nat) : Statement (.testStepComplete loadNanoamps) := of_none rfl

theorem writeByteReceived (byte : Byte) : Statement (.writeByteReceived byte) := of_none rfl

theorem resetHeldLow : Statement .resetHeldLow := of_none rfl

theorem durationSecond (slot : Fin 32) : Statement (.durationSecond slot) := of_none rfl

theorem waitSecond (slot : Fin 32) : Statement (.waitSecond slot) := of_none rfl

theorem keepaliveSecond (x : Seat) : Statement (.keepaliveSecond x) := of_none rfl

theorem lingerSecond (bank : Fin 4) : Statement (.lingerSecond bank) := of_none rfl

end Sys2Proof.Laws.FrameLength
end

