-- ==== Sys2Proof/Laws/Records.lean ====
section
/-! SUPPORT. What acts do to the records of the lease table and to the wait list: most leave both alone, an act on one lease leaves the other
records alone. -/

namespace Sys2Proof.Machine.State

/-- The records of the lease table and the wait list. -/
def records (s : State) : (Fin 32 → Option Lease) × List (Fin 32) := (s.lease?, s.allocator.waitList)

variable (s : State)

theorem lease_of_records {s t : State} (h : t.records = s.records) (k : Fin 32) : t.lease? k = s.lease? k :=
  congrFun (congrArg Prod.fst h) k

theorem waitList_of_records {s t : State} (h : t.records = s.records) : t.allocator.waitList = s.allocator.waitList :=
  congrArg Prod.snd h

theorem foldl_records {α : Type} {f : State → α → State} (h : ∀ s a, (f s a).records = s.records) (l : List α) (s : State) :
    (l.foldl f s).records = s.records := by
  induction l generalizing s with
  | nil => rfl
  | cons a l ih => rw [List.foldl_cons, ih, h]

/-! ## Acts that leave them alone -/

@[simp] theorem records_setSeat (x v) : (s.setSeat x v).records = s.records := rfl
@[simp] theorem records_setCell (x v) : (s.setCell x v).records = s.records := rfl
@[simp] theorem records_setDrive (x v) : (s.setDrive x v).records = s.records := rfl
@[simp] theorem records_setBank (x v) : (s.setBank x v).records = s.records := rfl
@[simp] theorem records_setTerminal (x v) : (s.setTerminal x v).records = s.records := rfl
@[simp] theorem records_setCommitted (x v) : (s.setCommitted x v).records = s.records := rfl
@[simp] theorem records_handPool (v) : (s.handPool v).records = s.records := rfl
@[simp] theorem records_driveOutputs : s.driveOutputs.records = s.records := rfl
@[simp] theorem records_moveBank (b st) : (s.moveBank b st).records = s.records := rfl
@[simp] theorem records_writeCode (c v) : (s.writeCode c v).records = s.records := rfl
@[simp] theorem records_zeroCode (c) : (s.zeroCode c).records = s.records := rfl
@[simp] theorem records_freeCell (c) : (s.freeCell c).records = s.records := rfl
@[simp] theorem records_allotCell (h t r c) : (s.allotCell h t r c).records = s.records := rfl
@[simp] theorem records_zeroCodes (cs) : (s.zeroCodes cs).records = s.records := foldl_records (by simp) ..
@[simp] theorem records_freeCells (cs) : (s.freeCells cs).records = s.records := foldl_records (by simp) ..
@[simp] theorem records_allotCells (h t r cs) : (s.allotCells h t r cs).records = s.records := foldl_records (by simp) ..
@[simp] theorem records_writeRamp (cs k) : (s.writeRamp cs k).records = s.records := foldl_records (by simp) ..
@[simp] theorem records_releaseTerminal (t) : (s.releaseTerminal t).records = s.records := rfl
@[simp] theorem records_postEdge (x v) : (s.postEdge x v).records = s.records := by unfold postEdge; split <;> simp
@[simp] theorem records_raiseLevel (x v) : (s.raiseLevel x v).records = s.records := by unfold raiseLevel; split <;> simp
@[simp] theorem records_endLevel (x v) : (s.endLevel x v).records = s.records := by unfold endLevel; split <;> simp
@[simp] theorem records_enterOn (b) : (s.enterOn b).records = s.records := by
  unfold enterOn; split
  · simp
  · rfl
@[simp] theorem records_demandRisen (b) : (s.demandRisen b).records = s.records := by
  unfold demandRisen; repeat' split
  all_goals simp
@[simp] theorem records_demandFallen (b) : (s.demandFallen b).records = s.records := by unfold demandFallen; split <;> simp
@[simp] theorem records_raiseClaim (b) : (s.raiseClaim b).records = s.records := by simp [raiseClaim]
@[simp] theorem records_raiseDriving (b) : (s.raiseDriving b).records = s.records := by simp [raiseDriving]
@[simp] theorem records_claimToDriving (b) : (s.claimToDriving b).records = s.records := rfl
@[simp] theorem records_dropClaim (b) : (s.dropClaim b).records = s.records := by simp [dropClaim]
@[simp] theorem records_dropDriving (b) : (s.dropDriving b).records = s.records := by simp [dropDriving]
@[simp] theorem records_reportStop (st b) : (s.reportStop st b).records = s.records := by unfold reportStop; split <;> simp
@[simp] theorem records_joinVerify (h) : (s.joinVerify h).records = s.records := by unfold joinVerify; split <;> rfl
@[simp] theorem records_reconsider : s.reconsider.records = s.records := by
  unfold reconsider; repeat' split
  all_goals rfl
@[simp] theorem records_clearEvents (x) : (s.clearEvents x).records = s.records := rfl
@[simp] theorem records_acknowledgeLevel (x a v) : (s.acknowledgeLevel x a v).records = s.records := by
  unfold acknowledgeLevel; simp only; split <;> [split <;> simp; rfl]
@[simp] theorem records_acknowledge (x a) : (s.acknowledge x a).records = s.records := by simp [acknowledge]
@[simp] theorem records_raiseHold : s.raiseHold.records = s.records := foldl_records (by simp) ..
@[simp] theorem records_endHold : s.endHold.records = s.records := foldl_records (by simp) ..
@[simp] theorem records_endBankFault : s.endBankFault.records = s.records := by unfold endBankFault; split <;> simp
@[simp] theorem records_dropLingerParts : s.dropLingerParts.records = s.records := rfl
@[simp] theorem records_enterHold (c) : (s.enterHold c).records = s.records := by
  unfold enterHold; split <;> [rfl; (rw [records_raiseHold, records_dropLingerParts]; rfl)]
@[simp] theorem records_fireTrip (n) : (s.fireTrip n).records = s.records := by
  simp only [fireTrip, records_postEdge, records_enterHold]; rfl
@[simp] theorem records_matchNotice (n) : (s.matchNotice n).records = s.records :=
  foldl_records (fun s i => by split <;> simp) ..
@[simp] theorem records_startDwell : s.startDwell.records = s.records := by unfold startDwell; split <;> rfl
@[simp] theorem records_makeVisitDue : s.makeVisitDue.records = s.records := rfl
@[simp] theorem records_setRailGood (b v) : (s.setRailGood b v).records = s.records := rfl
@[simp] theorem records_freeTesting (cs) : (s.freeTesting cs).records = s.records :=
  foldl_records (fun s c => by split <;> simp) ..
@[simp] theorem records_stopCellUnderTest (t) : (s.stopCellUnderTest t).records = s.records := by
  unfold stopCellUnderTest; split <;> simp
@[simp] theorem records_startTestStep (t c r k) : (s.startTestStep t c r k).records = s.records := rfl
@[simp] theorem records_loseTest (b) : (s.loseTest b).records = s.records := by
  unfold loseTest; split <;> [split <;> [(rw [records_postEdge]; exact (records_freeTesting ..).trans (records_stopCellUnderTest ..)); rfl]; rfl]

/-! ## Acts on one lease -/

/-- Nothing but the record of slot `k` differs, and the wait list is the same. -/
def OnlyRecord (k : Fin 32) (s t : State) : Prop :=
  (∀ j, j ≠ k → t.lease? j = s.lease? j) ∧ t.allocator.waitList = s.allocator.waitList

theorem OnlyRecord.refl (k : Fin 32) (s : State) : OnlyRecord k s s := ⟨fun _ _ => rfl, rfl⟩

theorem OnlyRecord.trans {k : Fin 32} {s t u : State} (h : OnlyRecord k s t) (h' : OnlyRecord k t u) : OnlyRecord k s u :=
  ⟨fun j hj => (h'.1 j hj).trans (h.1 j hj), h'.2.trans h.2⟩

theorem OnlyRecord.of_records {k : Fin 32} {s t : State} (h : t.records = s.records) : OnlyRecord k s t :=
  ⟨fun j _ => lease_of_records h j, waitList_of_records h⟩

/-- An act that leaves the records alone, after one on a lease. -/
theorem OnlyRecord.then {k : Fin 32} {s t u : State} (h : OnlyRecord k s t) (hu : u.records = t.records) : OnlyRecord k s u :=
  h.trans (.of_records hu)

theorem only_putLease (k : Fin 32) (l : Lease) : OnlyRecord k s (s.putLease k l) :=
  ⟨fun j hj => by simp [Ne.symm hj], by simp⟩

theorem only_startRamp (k : Fin 32) (n : Nat) (e : Allocation → List (Fin 24 × Nat)) : OnlyRecord k s (s.startRamp k n e) := by
  unfold startRamp; split
  · split
    · simp only; split
      · exact (s.only_putLease k _).then (by simp; rfl)
      · exact s.only_putLease ..
    · exact .refl ..
  · exact .refl ..

theorem only_startTargetRamp (k : Fin 32) : OnlyRecord k s (s.startTargetRamp k) := by
  unfold startTargetRamp; split <;> [exact s.only_startRamp ..; exact .refl ..]

theorem only_enterStarting (k : Fin 32) : OnlyRecord k s (s.enterStarting k) := by
  unfold enterStarting; split
  · split
    · split
      · exact ((s.only_putLease k _).then (by simp; rfl)).trans (only_startTargetRamp ..)
      · exact (s.only_putLease k _).then (by simp; rfl)
    · exact .refl ..
  · exact .refl ..

theorem only_enterRampdown (k : Fin 32) (d : Destination) : OnlyRecord k s (s.enterRampdown k d) := by
  unfold enterRampdown; split <;> [exact (s.only_putLease k _).trans (only_startRamp _ k _ _); exact .refl ..]

theorem only_closeHolding (k : Fin 32) (w : EndReason) : OnlyRecord k s (s.closeHolding k w) := by
  unfold closeHolding; split
  · split <;> [exact (s.only_putLease k _).then (by simp; rfl); exact s.only_putLease ..]
  · exact .refl ..

theorem only_suspendHolding (k : Fin 32) (w : SuspendReason) : OnlyRecord k s (s.suspendHolding k w) := by
  unfold suspendHolding; split
  · split <;> [exact (s.only_putLease k _).then (by simp; rfl); exact s.only_putLease ..]
  · exact .refl ..

theorem only_takeDestination (k : Fin 32) (d : Destination) : OnlyRecord k s (s.takeDestination k d) := by
  cases d <;> [exact s.only_suspendHolding ..; exact s.only_closeHolding ..]

theorem only_postLease (k : Fin 32) (v : Event) : OnlyRecord k s (s.postLease k v) := by
  unfold postLease; split <;> [exact (s.only_putLease k _).then (by simp; rfl); exact .refl ..]

theorem only_endRamp (k : Fin 32) : OnlyRecord k s (s.endRamp k) := by
  unfold endRamp; split
  · split <;> [exact (OnlyRecord.of_records (by simp)).trans (only_putLease ..); exact s.only_putLease ..]
  · exact .refl ..

theorem only_admitTo (k : Fin 32) (l : Lease) (b : Fin 4) : OnlyRecord k s (s.admitTo k l b) :=
  ((OnlyRecord.of_records (by simp)).trans (only_putLease _ k _)).trans (only_enterStarting ..)

theorem only_markRailLost (k : Fin 32) : OnlyRecord k s (s.markRailLost k) := by
  unfold markRailLost; split <;> [exact s.only_putLease ..; exact .refl ..]

theorem only_faultLease (k : Fin 32) (f : FaultKind) : OnlyRecord k s (s.faultLease k f) := by
  unfold faultLease; split
  · rename_i l _
    refine OnlyRecord.then (t := State.postLease _ k _) ((s.only_takeDestination k (l.policy.destination f)).trans ?_) rfl
    split <;> [exact (only_markRailLost ..).trans (only_postLease ..); exact only_postLease ..]
  · exact .refl ..

theorem only_railLossLease (k : Fin 32) : OnlyRecord k s (s.railLossLease k) := by
  unfold railLossLease; split
  · split
    iterate 3 exact s.only_faultLease ..
    · exact ((s.only_takeDestination ..).trans (only_markRailLost ..)).trans (only_postLease ..)
    · exact s.only_markRailLost ..
    all_goals exact .refl ..
  · exact .refl ..

theorem only_bankOnLease (b : Fin 4) (k : Fin 32) : OnlyRecord k s (s.bankOnLease b k) := by
  unfold bankOnLease; split
  · split
    · exact ((s.only_putLease k _).then (by simp; rfl)).trans (only_startTargetRamp ..)
    · exact .refl ..
  · exact .refl ..

/-! ## What stands in the record after them -/

/-- The ramp of the lease in a slot, if it has one in flight. -/
def ramp? (k : Fin 32) : Option Ramp := (s.lease? k).bind (·.ramp)

theorem ramp_of_records {s t : State} (h : t.records = s.records) (k : Fin 32) : t.ramp? k = s.ramp? k := by
  simp [ramp?, lease_of_records h]

theorem ramp_putLease (k : Fin 32) (l : Lease) : (s.putLease k l).ramp? k = l.ramp := by simp [ramp?]

/-- A lease that stops at once has no ramp (R78). -/
theorem ramp_takeDestination (k : Fin 32) (d : Destination) : (s.takeDestination k d).ramp? k = none := by
  cases d <;> simp only [takeDestination, suspendHolding, closeHolding]
  all_goals split
  · split <;> [exact (ramp_of_records (by simp; rfl) k).trans (s.ramp_putLease k _); exact s.ramp_putLease k _]
  · simp [ramp?, *]
  · split <;> [exact (ramp_of_records (by simp; rfl) k).trans (s.ramp_putLease k _); exact s.ramp_putLease k _]
  · simp [ramp?, *]

/-- A completed ramp is removed (R74). -/
theorem ramp_endRamp (k : Fin 32) : (s.endRamp k).ramp? k = none := by
  unfold endRamp; split
  · split <;> rw [ramp_putLease]
  · simp [ramp?, *]

/-- An event posted to an owner leaves the ramps alone. -/
theorem ramp_postLease (k j : Fin 32) (v : Event) : (s.postLease k v).ramp? j = s.ramp? j := by
  unfold postLease; split
  · rename_i l hl
    refine (ramp_of_records (t := _) (s := s.putLease k { l with changed := true }) (by simp) j).trans ?_
    by_cases h : k = j
    · subst h; simp [ramp?, hl]
    · simp [ramp?, h]
  · rfl

/-- A ramp that starts leaves the state of its lease alone. -/
theorem state_startRamp (k : Fin 32) (n : Nat) (e : Allocation → List (Fin 24 × Nat)) :
    ((s.startRamp k n e).lease? k).map (·.state) = (s.lease? k).map (·.state) := by
  unfold startRamp; split
  · rename_i l hl
    split
    · simp only; split <;> simp [hl]
    · rfl
  · rfl

/-- An admitted lease is in STARTING (R58). -/
theorem state_admitTo (k : Fin 32) (l : Lease) (b : Fin 4) : ∃ p, ((s.admitTo k l b).lease? k).map (·.state) = some (.starting p) := by
  unfold admitTo enterStarting
  simp only [lease_putLease, if_true]
  split
  · refine ⟨.ramp, ?_⟩
    unfold startTargetRamp
    split
    · rw [state_startRamp, lease_of_records (records_raiseDriving ..)]; simp
    · rename_i h; rw [lease_of_records (records_raiseDriving ..)] at h; simp at h
  · exact ⟨.wake, by rw [lease_of_records (records_raiseClaim ..)]; simp⟩

/-! ## Zero-time ramps and their completions (R73) -/

/-- Whether the lease in a slot has a zero-time ramp in flight. -/
def zeroRamp (k : Fin 32) : Bool := (s.ramp? k).any (·.time == 0)

theorem zeroRamp_eq {s t : State} {k : Fin 32} (h : t.ramp? k = s.ramp? k) : t.zeroRamp k = s.zeroRamp k := by
  simp [zeroRamp, h]

theorem zeroRamp_of_none {s : State} {k : Fin 32} (h : s.ramp? k = none) : s.zeroRamp k = false := by simp [zeroRamp, h]

/-- The due slot is the lowest one with a zero-time ramp in flight. -/
theorem dueSlot_eq : s.dueSlot = allSlots.find? s.zeroRamp := rfl

/-- Nothing is due exactly when no zero-time ramp is in flight. -/
theorem dueSlot_eq_none : s.dueSlot = none ↔ ∀ k, s.zeroRamp k = false := by
  simp [dueSlot_eq, allSlots]

/-- What completions use up: the zero-time ramps in flight and the places on the wait list. -/
def work : Nat := allSlots.countP s.zeroRamp + s.allocator.waitList.length

theorem work_le_bound : s.work ≤ 32 + s.allocator.waitList.length := by
  have := List.countP_le_length (p := s.zeroRamp) (l := allSlots)
  simp only [work, allSlots, List.length_finRange] at *
  omega

/-- An act that starts no ramp and keeps the wait list uses nothing. -/
theorem work_le {s t : State} (h : ∀ k, t.zeroRamp k = true → s.zeroRamp k = true)
    (hw : t.allocator.waitList.length ≤ s.allocator.waitList.length) : t.work ≤ s.work := by
  have := List.countP_mono_left (l := allSlots) (p := t.zeroRamp) (q := s.zeroRamp) fun k _ => h k
  simp only [work]; omega

/-- An act on one lease raises the number of zero-time ramps by one at most. -/
theorem countP_only {k : Fin 32} {s t : State} (h : OnlyRecord k s t) :
    allSlots.countP t.zeroRamp ≤ allSlots.countP s.zeroRamp + 1 := by
  have hj : ∀ j, j ≠ k → t.zeroRamp j = s.zeroRamp j := fun j hj => by simp [zeroRamp, ramp?, h.1 j hj]
  have key : ∀ l : List (Fin 32), l.Nodup → l.countP t.zeroRamp ≤ l.countP s.zeroRamp + if k ∈ l then 1 else 0 := by
    intro l hl
    induction l with
    | nil => simp
    | cons a l ih =>
      have ih := ih (List.nodup_cons.1 hl).2
      rw [List.countP_cons, List.countP_cons]
      by_cases ha : a = k
      · subst ha
        have : a ∉ l := (List.nodup_cons.1 hl).1
        simp only [this, if_false, List.mem_cons, true_or, if_true] at *
        split <;> split <;> omega
      · rw [hj a ha]
        have : (k ∈ a :: l) ↔ k ∈ l := by simp [Ne.symm ha]
        simp only [this]; omega
  have := key allSlots (List.nodup_finRange 32)
  split at this <;> omega

/-- An act on one lease that leaves it without a ramp uses nothing. -/
theorem work_only {k : Fin 32} {s t : State} (h : OnlyRecord k s t) (hr : t.ramp? k = none) : t.work ≤ s.work := by
  refine work_le (fun j hj => ?_) (by rw [h.2])
  by_cases hk : j = k
  · subst hk; simp [zeroRamp, hr] at hj
  · simpa [zeroRamp, ramp?, h.1 j hk] using hj

/-- Whether the record of a slot is in WAITING. -/
def waits (k : Fin 32) : Prop := ∃ l n u, s.lease? k = some l ∧ l.state = .waiting n u

/-- One lease tried: nothing happens, or it stops waiting, leaves the list and starts one ramp at most (R62). -/
theorem tryWaiting_cases (k : Fin 32) : s.tryWaiting k = s ∨
    (s.waits k ∧ ¬(s.tryWaiting k).waits k ∧ (∀ j, j ≠ k → (s.tryWaiting k).lease? j = s.lease? j) ∧
      (s.tryWaiting k).allocator.waitList = s.allocator.waitList.filter (· != k) ∧
      allSlots.countP (s.tryWaiting k).zeroRamp ≤ allSlots.countP s.zeroRamp + 1) := by
  unfold tryWaiting
  split
  · rename_i l hl
    split
    · rename_i n u hs
      split
      · rename_i b _
        right
        have ha := s.only_admitTo k l b
        generalize hs1 : s.admitTo k l b = s1 at *
        have hp := only_postLease { s1 with allocator := { s1.allocator with
          waitList := s1.allocator.waitList.filter (· != k) } } k .admitted
        refine ⟨⟨l, n, u, hl, hs⟩, ?_, ?_, ?_, ?_⟩
        · rintro ⟨m, n', u', hm, hm'⟩
          obtain ⟨p, hq⟩ := s.state_admitTo k l b
          rw [hs1] at hq
          obtain ⟨x, hx, hx'⟩ := Option.map_eq_some_iff.1 hq
          unfold postLease at hm
          have hx2 : lease? { s1 with allocator := { s1.allocator with
            waitList := s1.allocator.waitList.filter (· != k) } } k = some x := hx
          simp only [hx2] at hm
          rw [lease_of_records (records_postEdge ..)] at hm
          simp only [lease_putLease, if_true, Option.some.injEq] at hm
          subst hm
          simp [hx'] at hm'
        · exact fun j hj => (hp.1 j hj).trans (ha.1 j hj)
        · exact hp.2.trans (by rw [ha.2])
        · refine le_trans (le_of_eq ?_) (countP_only ha)
          exact congrArg (List.countP · allSlots) (funext fun j => zeroRamp_eq (ramp_postLease ..))
      · exact .inl rfl
    all_goals exact .inl rfl
  · exact .inl rfl

theorem work_foldl_tryWaiting (l : List (Fin 32)) (s : State) (h : ∀ k ∈ l, s.waits k → k ∈ s.allocator.waitList) :
    (l.foldl tryWaiting s).work ≤ s.work := by
  induction l generalizing s with
  | nil => exact le_refl _
  | cons k l ih =>
    rw [List.foldl_cons]
    rcases s.tryWaiting_cases k with he | ⟨hw, hn, hj, hl, hc⟩
    · rw [he]; exact ih s fun j hj => h j (List.mem_cons_of_mem _ hj)
    · refine le_trans (ih _ fun j hjl hjw => ?_) ?_
      · have hjk : j ≠ k := fun e => hn (e ▸ hjw)
        obtain ⟨m, n, u, hm, hs⟩ := hjw
        rw [hj j hjk] at hm
        rw [hl]
        simpa [hjk] using h j (List.mem_cons_of_mem _ hjl) ⟨m, n, u, hm, hs⟩
      · have hk := h k (List.mem_cons_self ..) hw
        have : (s.allocator.waitList.filter (· != k)).length < s.allocator.waitList.length := by
          rw [List.length_filter_lt_length_iff_exists]
          exact ⟨k, hk, by simp⟩
        simp only [work, hl]; omega

/-- A rescan uses nothing. -/
theorem work_rescan : s.rescan.work ≤ s.work := by
  unfold rescan; split
  · exact le_refl _
  · exact work_foldl_tryWaiting _ _ fun k hk _ => hk

theorem work_rescanIf (b : Bool) : (s.rescanIf b).work ≤ s.work := by
  cases b <;> [exact le_refl _; exact s.work_rescan]

/-- A completion uses up the zero-time ramp it completes. -/
theorem work_completeRamp {k : Fin 32} (h : s.zeroRamp k = true) : (s.completeRamp k).work < s.work := by
  have he := s.only_endRamp k
  have hr := s.ramp_endRamp k
  have hlt : (s.endRamp k).work < s.work := by
    have : allSlots.countP (s.endRamp k).zeroRamp < allSlots.countP s.zeroRamp := by
      rw [List.countP_eq_length_filter, List.countP_eq_length_filter]
      have hf : allSlots.filter (s.endRamp k).zeroRamp = (allSlots.filter s.zeroRamp).filter (· != k) := by
        rw [List.filter_filter]
        refine List.filter_congr fun j _ => ?_
        by_cases hj : j = k
        · subst hj; simp [zeroRamp, hr]
        · simp [zeroRamp, ramp?, he.1 j hj, hj]
      rw [hf, List.length_filter_lt_length_iff_exists]
      exact ⟨k, by simp [allSlots, h], by simp⟩
    simp only [work, he.2]; omega
  obtain ⟨l, hl⟩ : ∃ l, s.lease? k = some l := by
    cases hl : s.lease? k with
    | none => simp [zeroRamp, ramp?, hl] at h
    | some l => exact ⟨l, rfl⟩
  have hsome : l.ramp.isNone = false := by
    cases hx : l.ramp with
    | none => simp [zeroRamp, ramp?, hl, hx] at h
    | some _ => rfl
  refine lt_of_le_of_lt ?_ hlt
  unfold completeRamp
  simp only [hl, hsome, Bool.false_eq_true, if_false]
  generalize s.endRamp k = s1 at *
  split
  · rename_i l1 hl1
    have hl1r : l1.ramp = none := by simpa [ramp?, hl1] using hr
    split
    · refine le_trans (work_rescanIf ..) (work_only (k := k) ((s1.only_putLease k _).then (by simp; rfl)) ?_)
      exact (ramp_of_records (s := s1.putLease k { l1 with state := .verifying }) (by simp) k).trans
        ((s1.ramp_putLease k _).trans hl1r)
    · exact le_trans (work_rescanIf ..) (work_only (k := k) (.of_records (by simp)) ((ramp_of_records (by simp) k).trans hr))
    · refine le_trans (work_rescanIf ..) (work_only (k := k) ((s1.only_takeDestination ..).trans (only_postLease ..)) ?_)
      exact (ramp_postLease ..).trans (s1.ramp_takeDestination ..)
    all_goals exact le_refl _
  · exact le_refl _

theorem work_driveOutputs : s.driveOutputs.work = s.work := rfl

theorem dueSlot_of_work {k : Fin 32} (h : s.dueSlot = some k) : (s.completeRamp k).driveOutputs.work < s.work := by
  rw [work_driveOutputs]
  exact s.work_completeRamp (by simpa using List.find?_some (s.dueSlot_eq ▸ h))

theorem settleWithin_settles (n : Nat) (s : State) (h : s.work ≤ n) : (settleWithin n s).dueSlot = none := by
  induction n generalizing s with
  | zero =>
    unfold settleWithin
    cases hd : s.dueSlot with
    | none => rfl
    | some k => have := s.dueSlot_of_work hd; omega
  | succ n ih =>
    unfold settleWithin
    split
    · rename_i k hd; have := s.dueSlot_of_work hd; exact ih _ (by omega)
    · assumption

theorem settleWithin_enough (n m : Nat) (s : State) (hn : s.work ≤ n) (hm : s.work ≤ m) : settleWithin n s = settleWithin m s := by
  induction n generalizing m s with
  | zero =>
    cases hd : s.dueSlot with
    | none => cases m <;> simp [settleWithin, hd]
    | some k => have := s.dueSlot_of_work hd; omega
  | succ n ih =>
    cases hd : s.dueSlot with
    | none => cases m <;> simp [settleWithin, hd]
    | some k =>
      have := s.dueSlot_of_work hd
      cases m with
      | zero => omega
      | succ m => simp only [settleWithin, hd]; exact ih _ _ (by omega) (by omega)

/-- After settling no zero-time ramp is in flight (R73). -/
theorem zeroRamp_settle (k : Fin 32) : s.settle.zeroRamp k = false :=
  (dueSlot_eq_none _).1 (settleWithin_settles _ _ s.work_le_bound) k

/-- Settling takes the completion of the lowest due slot, with its outputs, and goes on (R73, logs 3 and 18). -/
theorem settle_of_due {k : Fin 32} (h : s.dueSlot = some k) : s.settle = (s.completeRamp k).driveOutputs.settle := by
  have := s.dueSlot_of_work h
  have hb := s.work_le_bound
  have : s.settle = settleWithin (31 + s.allocator.waitList.length) (s.completeRamp k).driveOutputs := by
    rw [settle, show 32 + s.allocator.waitList.length = (31 + s.allocator.waitList.length) + 1 by omega]
    simp only [settleWithin, h]
  rw [this]
  exact settleWithin_enough _ _ _ (by omega) (work_le_bound _)

end Sys2Proof.Machine.State
end

