-- ==== Sys2Proof/Laws/Requests.lean ====
section
/-! SUPPORT. What an accepted request answers, and one on a handle's record. -/

namespace Sys2Proof.Machine

/-- An accepted request answers with its body's reply on the state it is taken in. -/
theorem request_of_accepted {i : Instr} {x : Seat} {c : RequestClass} {p : List Byte} {body : State → Reply} {s : State}
    (hr : requestOf i = some (x, c)) (ha : Accepted i s) :
    request i x c p body s = .next ((body s.taken).state.respond i x (body s.taken).status (body s.taken).payload) := by
  obtain ⟨y, d, hy, hd, hc⟩ := ha
  obtain ⟨rfl, rfl⟩ : x = y ∧ c = d := by simpa [hr] using hy
  exact request_accepted hd hc

/-- The body of an accepted request on a record sees that record. -/
theorem request_of_subject {i : Instr} {x : Seat} {c : RequestClass} {p : List Byte} {h : Handle}
    {f : Fin 32 → Lease → State → Reply} {s : State} {k : Fin 32} {l : Lease}
    (hr : requestOf i = some (x, c)) (hs : Subject i x h s k l) :
    request i x c p (fun s => withRecord x h s fun k l => f k l s) s =
      .next ((f k l s.taken).state.respond i x (f k l s.taken).status (f k l s.taken).payload) := by
  rw [request_of_accepted hr hs.1, withRecord_found hs.2.1 hs.2.2]

end Sys2Proof.Machine
end

