-- ==== Sys2Proof/WellFormed.lean ====
section
/-! DEFINITION. Which commands make sense: what the operand types do not already say.
A request is always well-formed: the device itself answers BAD_PARAM for values outside their ranges (R172). -/

namespace Sys2Proof

/-- The samples of one conversion: as many voltage as current samples, and their number is an averaging (R94, R95). -/
def Samples.wellFormed (m : Samples) : Bool :=
  m.current.length == m.voltage.length && [1, 2, 4, 8].contains m.current.length

/-- Seat S has no keepalive (R126), so no keepalive row names it. -/
def Seat.mayLapse (x : Seat) : Bool := x != .s

/-- The checks on a command's operands. -/
def Instr.wellFormed : Instr → Bool
  | .conversionComplete m => m.wellFormed
  | .keepaliveExpiry x => x.mayLapse
  | .lapseNotice x => x.mayLapse
  | .keepaliveSecond x => x.mayLapse
  | _ => true

end Sys2Proof
end

