-- ==== Sys2Proof/Tests/Slice0.lean ====
section
/-! SUPPORT. The model's own tests: worked numbers of the spec, single steps on a small board, and for every statement with hypotheses a state
and operands that meet them. -/

namespace Sys2Proof.Machine.Test

set_option Elab.async false

open Sys2Proof Sys2Proof.Machine State

/-! ## The board the tests use -/

/-- The state after a command; the state before it where it stopped, which no command does. -/
def after (i : Instr) (s : State) : State :=
  match exec i s with
  | .next t => t
  | _ => s

/-- State.reset with seats A and B enabled. -/
def enabled : State :=
  (State.reset.setSeat .a { State.reset.seat .a with enabled := true }).setSeat .b { State.reset.seat .b with enabled := true }

/-- Seat A's lease of 50000 µA on T3 with cell 0, in a state that holds cells. -/
def lease (st : LeaseState) : Lease :=
  { owner := .a, terminal := 3, target := 50000, compliance := 10000, rampTime := some 64, tolerance := none, regulate := true
    policy := .suspend, waitLimit := 10, tag := some 1, range := some .high, alloc := some ⟨0, [⟨0, false⟩], 2048, 0, 600⟩
    duration := some ⟨.seconds, 100, 50⟩, state := st, ramp := none, rampCount := 1#8, lastMeasurement := none
    railLost := false, changed := false }

/-- The same lease with no allocation. -/
def bare (st : LeaseState) : Lease := { lease st with range := none, alloc := none }

/-- The ramp of that lease from code 0 to its base code. -/
def ramp (time step : Nat) : Ramp := ⟨0, 50000, time, step, 0, [⟨0, 0, 2048⟩]⟩

/-- The device with one lease, in slot 0 with handle 0x00, and bank 0 in the given state. -/
def board (l : Lease) (st : BankState) : State :=
  let s := (enabled.putLease 0 l).setBank 0 { enabled.bank 0 with
    state := st, driving := if l.state.driving then 1 else 0, claims := if l.state = .starting .wake then 1 else 0 }
  match l.alloc, l.state with
  | some _, _ =>
    (((s.setCell 0 ⟨.allotted 0x00#8, .untested, some 3⟩).setDrive 0 ⟨2048, .high⟩).setTerminal 3
      ⟨some 0x00#8, .discharge, .discharge, false⟩).setCommitted 0 600
  | none, .waiting _ _ => { s with allocator := { s.allocator with waitList := [0] } }
  | none, _ => s

/-- One lease in each of the seven states, its phases and destinations included. -/
def leases : List Lease :=
  [bare (.waiting 10 0), lease (.starting .wake), lease (.starting .ramp), lease .verifying, lease (.active false 0),
    lease (.rampdown (.suspended .requested)), lease (.rampdown (.closed .expired)), lease (.suspended .requested),
    bare (.closed .cancelled)]

/-- The pool in HOLD. -/
def inHold (s : State) : State := { s with pool := { s.pool with state := .hold .request } }

/-- Seat A with a keepalive and marks. -/
def keeping (k : Keepalive) (period : Nat) : State :=
  enabled.setSeat .a { enabled.seat .a with keepalive := k, period := some period, latched := 0x0011#16, acked := 0x0010#16 }

/-- Bank 1 under test with its rail up, at a step of cell 11 alone. -/
def testing (r : Range) (c : Check) : State :=
  let s := (enabled.setBank 1 { enabled.bank 1 with state := .testing none }).setCell 11 ⟨.testing, .untested, none⟩
  { s with selfTest := some ⟨1, .retain, [11], some ⟨11, r, c, c != .leak, 0⟩, false⟩ }

/-- Whether a request is dispatched and passes its seat checks. -/
def accepted (i : Instr) (s : State) : Bool :=
  match requestOf i with
  | some (x, c) => s.mayDispatch x (frameOf i) && (s.taken.seatCheck x c).isNone
  | none => false

theorem accepted_of {i : Instr} {s : State} (h : accepted i s = true) : Accepted i s := by
  unfold accepted at h
  split at h
  · rename_i x c hr
    rw [Bool.and_eq_true, Option.isNone_iff_eq_none] at h
    exact ⟨x, c, hr, h.1, h.2⟩
  · exact absurd h (by decide)

/-- Whether a request is accepted on a record its seat may act on. -/
def subject (i : Instr) (x : Seat) (h : Handle) (s : State) (k : Fin 32) (l : Lease) : Bool :=
  accepted i s && decide (s.taken.resolve h = some (k, l)) && decide (x = .s ∨ l.owner = x)

theorem subject_of {i : Instr} {x : Seat} {h : Handle} {s : State} {k : Fin 32} {l : Lease}
    (hs : subject i x h s k l = true) : Subject i x h s k l := by
  rw [subject, Bool.and_eq_true, Bool.and_eq_true, decide_eq_true_eq, decide_eq_true_eq] at hs
  exact ⟨accepted_of hs.1.1, hs.1.2, hs.2⟩

/-! ## Ill-formed commands -/

theorem test_wellFormed_unequal_samples_refused : Instr.wellFormed (.conversionComplete ⟨[1, 2], [1], none⟩) = false := by decide

theorem test_wellFormed_three_samples_refused :
    Instr.wellFormed (.conversionComplete ⟨[1, 2, 3], [1, 2, 3], none⟩) = false := by decide

theorem test_wellFormed_supervisor_keepalive_refused : Instr.wellFormed (.keepaliveExpiry .s) = false := by decide

theorem test_wellFormed_supervisor_lapse_refused : Instr.wellFormed (.lapseNotice .s) = false := by decide

theorem test_wellFormed_supervisor_second_refused : Instr.wellFormed (.keepaliveSecond .s) = false := by decide

theorem test_wellFormed_good_commands :
    Instr.wellFormed (.conversionComplete ⟨[1, 2], [1, 2], some (0, 0)⟩) = true ∧ Instr.wellFormed (.keepaliveExpiry .a) = true ∧
      Instr.wellFormed (.suspend .a 0xFF#8) = true := by decide

/-! ## Numbers of the spec -/

/-- The check codes of 11.4 and of the IDLE page. -/
theorem test_crc_worked : crc8 [0x1A#8, 0x00#8] = 0xD5#8 ∧ crc8 [0x01#8, 0x1A#8, 0x00#8] = 0xBE#8 ∧
    Page.idle.bytes = [0#8, 0#8, 0#8, 0#8] := by decide +kernel

/-- The handles of 1.2.2, and the generation that wraps. -/
theorem test_handles_worked : handleOf 3 2 = 0x43#8 ∧ handleOf 3 3 = 0x63#8 ∧ handleOf 17 5 = 0xB1#8 ∧ nextGen 3 7 = 0 ∧
    nextGen 31 6 = 0 ∧ nextGen 31 5 = 6 := by decide

/-- The base codes of the table under R29. -/
theorem test_base_codes_worked :
    [50, 3000, 5001, 20000, 25001, 100000, 100001, 250000, 600000].map (fun t =>
        (chooseRange t, admissionCells t, baseCodeOf (chooseRange t) (admissionCells t) t)) =
      [(.low, 1, 41), (.low, 1, 2457), (.mid, 1, 819), (.mid, 1, 3276), (.high, 1, 1024), (.high, 1, 4095), (.high, 2, 2048),
        (.high, 3, 3413), (.high, 6, 4095)] := by decide +kernel

/-- The charges of the table under R31. -/
theorem test_charges_worked :
    chargeOf 250000 12000 = 3000 ∧ chargeOf 60000 12000 = 720 ∧ chargeOf 3000 12000 = 36 ∧ chargeOf 50 3000 = 1 ∧
      chargeOf 600000 28000 = 16800 := by decide +kernel

/-- The present levels and the ramp code of 4.10. -/
theorem test_retarget_worked : levelOf .high (3581 + 3 * 3583) = 349939 ∧ levelOf .high (3634 + 3635 + 1792 + 1792) = 265031 ∧
    rampCode 3583 0 16 = 1792 := by decide +kernel

/-- The windows of the table under R143. -/
theorem test_test_windows_worked :
    ([2375, 2376, 2625, 2626].map (checkPasses .gain .low) = [false, true, true, false]) ∧
      ([49, 50].map (checkPasses .offset .low) = [true, false]) ∧ ([9, 10].map (checkPasses .leak .low) = [true, false]) := by
  decide +kernel

/-- The record of a lease is 46 bytes, STATUS 36, CELL QUERY 42. -/
theorem test_payload_lengths : ((lease .verifying).record 0#8).length = 46 ∧ enabled.statusPayload.length = 36 ∧
    (enabled.cellPayload 3).length = 42 := by decide +kernel

/-- Boundary targets and ends of the ramp of the arithmetic statement. -/
theorem test_meets_CodesAndCharges :
    (chooseRange 5000, chooseRange 5001, chooseRange 25000, chooseRange 25001) = (.low, .mid, .mid, .high) ∧
      (admissionCells 100000, admissionCells 100001, admissionCells 600000) = (1, 2, 6) ∧ cellCount .low 50 = 1 ∧
      cellCount .high 200001 = 3 ∧ (leadCode 10 (-11), leadCode 4095 1, leadCode 4095 0, leadCode 10 (-10)) = (0, 4095, 4095, 0) ∧
      (rampCode 7 9 0, rampCode 7 9 32) = (7, 9) := by decide +kernel

/-! ## Steps, resets, the port -/

theorem test_step_runs_front : ∃ s : State, s.pending = [.status .s] := ⟨{ State.reset with pending := [.status .s] }, rfl⟩

/-- Reset has no work due; a queued frame is due, and each timer that has run its time, the last second as its expiry. -/
theorem test_meets_EmptyQueueStep :
    let bank (st : BankState) := (enabled.setBank 1 { enabled.bank 1 with state := st }).due
    let ending (n : Nat) := board { lease (.active false 32000) with duration := some ⟨.seconds, 100, n⟩ } .on
    State.reset.pending = [] ∧ State.reset.due = [] ∧
    ({ State.reset with port := { State.reset.port with requestQueue := [⟨.s, 0x1C#8, []⟩] } }).due = [.status .s] ∧
    [bank (.waking 0), bank (.waking 1), bank (.testing (some 0)), bank (.linger 1 32000), bank (.linger 2 32000), bank (.linger 2 31999)] =
      [[.wakeTimeout 1], [], [.wakeTimeout 1], [.lingerExpiry 1], [.lingerSecond 1], []] ∧
    [(ending 1).due, (ending 2).due, (inHold (ending 2)).due] = [[.durationExpiry 0], [.durationSecond 0], []] ∧
    [1, 2].map (fun n => (board (bare (.waiting n 32000)) .off).due) = [[.waitTimerExpiry 0], [.waitSecond 0]] ∧
    [1, 2].map (fun n => (keeping (.armed n 32000) 30).due) = [[.keepaliveExpiry .a], [.keepaliveSecond .a]] ∧
    [(64, 0), (64, 32), (0, 32)].map (fun (c : Nat × Nat) =>
      (board { lease (.starting .ramp) with ramp := some (ramp c.1 c.2) } .on).due) =
      [[], [.rampComplete 0], [.rampComplete 0, .rampComplete 0]] := by decide +kernel

/-- A tick in RUN and in HOLD: the wake timer and the ramp run in both, the part-seconds of a duration and a keepalive in RUN only. -/
theorem test_clockTick :
    let s := ((board { lease (.active false 9) with ramp := some (ramp 64 0) } .on).setBank 1 { enabled.bank 1 with
      state := .waking 7 }).setSeat .a { enabled.seat .a with keepalive := .armed 3 4 }
    [s, inHold s].map (fun s => let t := s.clockTick
      ((t.lease? 0).map fun l => (l.state, l.ramp.map (·.elapsed)), (t.bank 1).state, (t.seat .a).keepalive)) =
      [(some (.active false 10, some 1), .waking 6, .armed 3 5), (some (.active false 9, some 1), .waking 6, .armed 3 4)] := by
  decide +kernel

/-- A board that meets the three invariants and steps on. -/
theorem test_meets_invariants :
    let s := after (.status .s) (board (lease (.active false 0)) .on)
    s.pinsAgree ∧ s.handlesSound ∧ s.portSound ∧ s.pending = [] := by
  refine ⟨?_, ?_, ?_, ?_⟩
  · unfold State.pinsAgree; decide +kernel
  · unfold State.handlesSound; decide +kernel
  · have h : (after (.status .s) (board (lease (.active false 0)) .on)).port.transaction = .idle := by decide +kernel
    refine ⟨by decide +kernel, by decide +kernel, by decide +kernel, ?_⟩
    rw [h]; trivial
  · decide +kernel

/-- A board with a lease in ACTIVE, one with a lease that waits, and one with a cell under test. -/
def boards : List State := [board (lease (.active false 0)) .on, board (bare (.waiting 10 0)) .off, testing .low .gain]

theorem test_boards_quotas : ∀ s ∈ boards, ∀ x, s.recordCount x ≤ (s.seat x).leaseQuota ∧ s.allottedCount x ≤ (s.seat x).cellQuota := by
  have h : ∀ s ∈ boards, ∀ x ∈ Seat.all, s.recordCount x ≤ (s.seat x).leaseQuota ∧ s.allottedCount x ≤ (s.seat x).cellQuota := by
    decide +kernel
  exact fun s hs x => h s hs x (by cases x <;> decide)

theorem test_boards_lease_table : ∀ s ∈ boards, s.leaseTableSound := by
  have h : ∀ s ∈ boards, s.waitListSound ∧ ∀ k, ∀ l ∈ s.lease? k, (∀ a ∈ l.alloc, -64 ≤ a.trim ∧ a.trim ≤ 63) ∧
      ∀ d ∈ l.duration, d.remaining = 0 → l.state.ending = true := by unfold State.waitListSound; decide +kernel
  exact fun s hs => ⟨(h s hs).1, (h s hs).2, fun x => (test_boards_quotas s hs x).1⟩

theorem test_boards_cells : ∀ s ∈ boards, s.cellsSound := by
  unfold State.cellsSound
  set_option synthInstance.maxSize 1024 in
  decide +kernel

theorem test_boards_banks : ∀ s ∈ boards, s.budgetSound ∧ s.banksSound := by
  unfold State.budgetSound State.banksSound; decide +kernel

theorem test_boards_holders : ∀ s ∈ boards, s.holdersSound := by unfold State.holdersSound; decide +kernel

theorem test_boards_test : ∀ s ∈ boards, s.testSound := by unfold State.testSound; decide +kernel

theorem test_boards_codes : ∀ s ∈ boards, s.codesSound := by unfold State.codesSound; decide +kernel

/-- Both ways for a cell to carry a nonzero code, and neither in WAITING, in SUSPENDED, on a bank that is not ON, or FREE. -/
theorem test_codes :
    ((board (lease (.active false 0)) .on).drive 0).code = 2048 ∧
      (board (lease (.active false 0)) .on).mayDrive 0 = true ∧ (testing .low .gain).mayDrive 11 = true ∧
      ((after (.testStepComplete 2500000) (testing .low .leak)).drive 11).code = 0 ∧
      [(board (lease (.suspended .requested)) .on).mayDrive 0, (board (lease (.starting .wake)) .on).mayDrive 0,
        (board (lease (.active false 0)) .faulted).mayDrive 0, enabled.mayDrive 0] = [false, false, false, false] := by decide +kernel

/-- The conditions of the output pins, each way: idle modes and holders for a switch, bank states for a rail enable, marks and masks for ATTN#. -/
theorem test_pins :
    leases.map (fun l => (board l .on).switchWanted 3) = [true, true, false, false, false, false, false, true, true] ∧
      (enabled.setTerminal 3 ⟨none, .float, .float, false⟩).switchWanted 3 = false ∧
      [BankState.disabled, .off, .waking 3, .on, .linger 1 0, .testing none, .testing (some 3), .faulted].map (·.railEnabled) =
        [false, false, true, true, true, true, true, false] ∧
      [(0x0010#16, 0x0000#16, 0x01FF#16), (0x0010#16, 0x0010#16, 0x01FF#16), (0x0010#16, 0x0000#16, 0x01EF#16), (0x0000#16, 0x0000#16, 0x01FF#16)].map
        (fun (m : BitVec 16 × BitVec 16 × BitVec 16) =>
          (enabled.setSeat .a { enabled.seat .a with latched := m.1, acked := m.2.1, mask := m.2.2 }).attention) =
        [true, false, false, false] := by decide +kernel

/-- The boards meet the invariants of the tables, and step on. -/
theorem test_meets_table_invariants :
    ∀ s ∈ boards, s.leaseTableSound ∧ s.handlesSound ∧ s.allocationSound := by
  have h : ∀ s ∈ boards, s.handlesSound := by unfold State.handlesSound; decide +kernel
  exact fun s hs => ⟨test_boards_lease_table s hs, h s hs, test_boards_cells s hs, (test_boards_banks s hs).1, (test_boards_banks s hs).2,
    test_boards_holders s hs, test_boards_test s hs, test_boards_codes s hs, fun x => (test_boards_quotas s hs x).2⟩

theorem test_meets_FramesReadBack :
    frameOf (.events .a 0x0021#16 (some 0x01FF#16)) = some ⟨.a, 0x1B#8, [0x21#8, 0x00#8, 0xFF#8, 0x01#8]⟩ ∧
      commandOf ⟨.b, 0x17#8, []⟩ = some (.listFirst .b none) ∧
      commandOf ⟨.b, 0x17#8, [0x01#8]⟩ = some (.listFirst .b (some 0x01#8)) ∧ commandOf ⟨.s, 0x2B#8, []⟩ = some (.hold .s none) := by
  decide

/-- Seat A in the middle of a write. -/
def writing (received : List Byte) : State :=
  { enabled with port := { enabled.port with transaction := .write .a received, busy := enabled.port.busy.set 1 true } }

/-- TOUCH of 11.4 arrives: PENDING, and the frame in the queue. -/
theorem test_writeEnd_good :
    let t := after .writeEnd (writing [0x1A#8, 0x00#8, 0xD5#8])
    (t.page .a, t.port.requestQueue, t.busy .a, t.port.transaction) =
      (⟨0x01#8, 0x1A#8, []⟩, [⟨.a, 0x1A#8, []⟩], true, .idle) := by decide +kernel

theorem test_meets_WrittenFrame : frameOf (.touch .a) = some ⟨.a, 0x1A#8, []⟩ ∧
    (writing ([0x1A#8, 0x00#8] ++ [crc8 [0x1A#8, 0x00#8]])).port.transaction = .write .a [0x1A#8, 0x00#8, 0xD5#8] := by
  decide +kernel

/-- The six ways a write is bad: no byte, code alone, cut short, a length above 24, a wrong check code, an unknown code, a length the
code does not allow. -/
theorem test_writeEnd_bad :
    ([[], [0x1A#8], [0x12#8, 0x01#8, 0x00#8], 0x12#8 :: 25#8 :: List.replicate 26 0#8, [0x1A#8, 0x00#8, 0x00#8],
        [0x40#8, 0x00#8, crc8 [0x40#8, 0x00#8]], [0x1A#8, 0x01#8, 0x00#8, crc8 [0x1A#8, 0x01#8, 0x00#8]]] : List (List Byte)).map
      (fun bs => let t := after .writeEnd (writing bs); ((t.page .a).status, t.busy .a, t.port.requestQueue)) =
      [(0x00#8, false, []), (0x10#8, false, []), (0x10#8, false, []), (0x10#8, false, []), (0x10#8, false, []),
        (0x11#8, false, []), (0x10#8, false, [])] := by decide +kernel

/-- A write address at an enabled seat, at one that is busy, with the queue full, and at no seat. -/
theorem test_writeAddress :
    let full := { enabled with port := { enabled.port with requestQueue := List.replicate 4 ⟨.a, 0x1A#8, []⟩ } }
    ((after (.writeAddress 0x60#7) enabled).port.ack, (after (.writeAddress 0x60#7) enabled).busy .a,
        (after (.writeAddress 0x60#7) (enabled.setBusy .a true)).port.ack, (after (.writeAddress 0x60#7) full).port.ack,
        (after (.writeAddress 0x62#7) enabled).port.ack) = (true, true, false, false, false) ∧
      enabled.port.transaction = .idle ∧ enabled.port.resetLow = false ∧ enabled.seatAt 0x60#7 = some .a ∧
      enabled.seatAt 0x62#7 = none := by decide +kernel

/-- Bytes by place: code, lengths 24 and 25, a byte that is wanted, one too many, any after a length of 25. -/
theorem test_writeByte :
    [(([] : List Byte), 0xFF#8), ([0x12#8], 24#8), ([0x12#8], 25#8), ([0x12#8, 0x00#8], 0#8), ([0x12#8, 0x00#8, 0x00#8], 0#8),
        ([0x12#8, 25#8], 0#8)].map (fun c =>
      let t := after (.writeByteReceived c.2) (writing c.1)
      (t.port.ack, t.port.transaction == .write .a (c.1 ++ [c.2]))) =
      [(true, true), (true, true), (false, true), (true, true), (false, false), (false, false)] := by decide +kernel

/-- With no write in progress WRITE_END changes nothing and a byte is not acknowledged; no write address is while RESET# is low. -/
theorem test_port_idle :
    let low := { enabled with port := { enabled.port with resetLow := true } }
    let t := after (.writeByteReceived 0x1A#8) (enabled.setAck true)
    enabled.port.transaction = .idle ∧ after .writeEnd enabled = enabled ∧
      (t.port.ack, t.port.transaction, t.port.requestQueue) = (false, .idle, []) ∧
      (after (.writeAddress 0x60#7) (low.setAck true)).port.ack = false ∧ (after (.writeAddress 0x60#7) low).busy .a = false := by
  decide +kernel

/-- A read past the end of the IDLE page. -/
theorem test_readPage :
    (after (.readPage 0x60#7 6) enabled).port.readData = [0#8, 0#8, 0#8, 0#8, 0xFF#8, 0xFF#8] ∧
      (after (.readPage 0x62#7 6) enabled).port.ack = false := by decide +kernel

theorem test_powerOnReset :
    let t := after (.powerOnReset ⟨1#2, 2#2⟩) (board (lease (.active true 7)) .on)
    ((t.lease? 0).isNone, t.handleAt 0, (t.bank 1).state, (t.bank 2).state) = (true, 0x00#8, .off, .disabled) ∧
      ((t.seat .s).address, t.seatAt 0x4A#7, t.seatAt 0x60#7) = (0x4A#7, some .s, none) := by decide +kernel

theorem test_pinReset :
    let t := after (.pinReset ⟨3#2, 0#2⟩) (inHold (board (lease (.active true 7)) .on))
    ((t.drive 0).code, (t.bank 0).railEnable, t.held, t.seatCtl.attnLow) = (0, false, false, false) := by decide +kernel

theorem test_resetHeldLow :
    let t := after .resetHeldLow (writing [0x1A#8])
    (t.port.transaction, (after (.writeAddress 0x48#7) t).port.ack, (after (.readPage 0x48#7 4) t).port.ack) =
      (.idle, false, false) := by decide +kernel

/-! ## Seat checks, handles, responses -/

/-- What each seat check refuses, in order, and what passes them all. -/
theorem test_seat_checks :
    let lapsed := enabled.setSeat .a { enabled.seat .a with keepalive := .lapsed }
    let answer (i : Instr) (x : Seat) (s : State) := ((after i s).page x).status
    (answer (.suspend .c 0#8) .c enabled, answer (.cellOut .a 0#8) .a enabled, answer (.suspend .a 0#8) .a (inHold enabled),
        answer (.suspend .a 0#8) .a lapsed, answer (.suspend .s 0#8) .s (inHold enabled), answer (.release .a 0#8) .a (inHold enabled),
        answer (.release .a 0#8) .a lapsed, answer (.touch .a) .a (inHold lapsed)) =
      (0x13#8, 0x13#8, 0x1C#8, 0x1D#8, 0x14#8, 0x14#8, 0x1D#8, 0x02#8) := by decide +kernel

/-- A frame that is the oldest of the queue, one that is not, an empty queue with the seat free, with it busy, and with RESET# low, where a
queued frame is still dispatched (logs 1, 10). -/
theorem test_meets_SeatChecks :
    let q := { enabled with port := { enabled.port with requestQueue := [⟨.a, 0x1A#8, []⟩, ⟨.b, 0x1A#8, []⟩] } }
    (q.mayDispatch .a (frameOf (.touch .a)), q.mayDispatch .b (frameOf (.touch .b)), enabled.mayDispatch .a (frameOf (.touch .a)),
        (enabled.setBusy .a true).mayDispatch .a (frameOf (.touch .a)), (after .resetHeldLow enabled).mayDispatch .a (frameOf (.touch .a)),
        (after .resetHeldLow q).mayDispatch .a (frameOf (.touch .a))) = (true, false, true, false, false, true) ∧
      requestOf (.touch .a) = some (.a, readingClass) := by decide +kernel

/-- The seven requests on a handle are accepted, on no record and on one of another seat. -/
theorem test_meets_Handles : (∀ i ∈ [Instr.suspend .b 0#8, .resume .b 0#8, .cancel .b 0#8, .release .b 0#8, .query .b 0#8,
      .adjust .b ⟨0#8, 1#8, 50#24, 0#16⟩, .purge .s 0#8], Accepted i (board (lease .verifying) .on) ∧ Accepted i enabled) ∧
    enabled.taken.resolve 0x00#8 = none ∧ enabled.taken.resolve 0xFF#8 = none ∧
    (board (lease .verifying) .on).taken.resolve 0x00#8 = some (0, lease .verifying) ∧ (lease .verifying).owner ≠ .b := by
  refine ⟨fun i hi => ?_, by decide +kernel⟩
  have h : [Instr.suspend .b 0#8, .resume .b 0#8, .cancel .b 0#8, .release .b 0#8, .query .b 0#8,
      .adjust .b ⟨0#8, 1#8, 50#24, 0#16⟩, .purge .s 0#8].all (fun i => accepted i (board (lease .verifying) .on) && accepted i enabled) =
      true := by decide +kernel
  have := (Bool.and_eq_true _ _).mp (List.all_eq_true.1 h i hi)
  exact ⟨accepted_of this.1, accepted_of this.2⟩

/-- The page a refused request leaves; no other page changes. -/
theorem test_query_refused :
    let t := after (.query .b 0x00#8) (board (lease .verifying) .on)
    (t.page .b, t.page .a) = (⟨0x15#8, 0x16#8, []⟩, Page.idle) := by decide +kernel

/-- RESTART on a board with a lease: the response, the slot's generation, the bank. -/
theorem test_restart :
    let t := after (.restart .s) (board (lease (.active true 7)) .on)
    (t.page .s, t.slot 0, (t.bank 0).state, (t.cell 0).state, (t.terminal 3).switchClosed) =
      (⟨0x02#8, 0x30#8, []⟩, ⟨1, none⟩, .off, .free, true) := by decide +kernel

theorem test_meets_Restart : Accepted (.restart .s) (inHold (board (lease .verifying) .on)) := accepted_of (by decide +kernel)

/-- RESTART keeps the dwell of a STOPPED scan. -/
theorem test_restart_stopped :
    let t := after (.restart .s) { enabled with meas := { enabled.meas with running := false, dwell := some 7, visitDue := false } }
    (t.meas.running, t.meas.dwell, t.meas.visitDue) = (false, some 7, false) := by decide +kernel

/-! ## OPEN and admission -/

/-- An admission to a bank in ON: the start ramp over 64 ms, and the end code at once with a ramp time of 0. -/
theorem test_admission_ramps :
    let s := enabled.setBank 0 { enabled.bank 0 with state := .on, driving := 1 }
    let w (time : Nat) := { bare (.waiting 10 0) with rampTime := some time }
    let t (time : Nat) := s.admitTo 1 (w time) 0
    (s.attempt (w 0)).toOption = some 0 ∧ (s.attempt (w 64)).toOption = some 0 ∧ s.handleAt 1 ≠ 0xFF#8 ∧
      ((t 64).lease? 1).map (·.ramp) = some (some ⟨0, 50000, 64, 0, 0, [⟨0, 0, 2048⟩]⟩) ∧ ((t 64).drive 0).code = 0 ∧
      ((t 0).lease? 1).map (·.ramp) = some (some ⟨0, 50000, 0, 32, 0, [⟨0, 0, 2048⟩]⟩) ∧ ((t 0).drive 0).code = 2048 := by
  decide +kernel

/-- An OPEN of `target` µA on T3 with a wait limit. -/
def opening (target : BitVec 24) (compliance wait : BitVec 16) : OpenParams :=
  { terminal := 3#8, target := target, compliance := compliance, flags := 0x54#8, waitLimit := wait, durationCount := 60#16
    rampTime := 64#16, tolerance := 0#16, groupTag := 1#8 }

/-- The boundaries of the OPEN parameters: inside and just outside. -/
theorem test_open_parameters :
    [(50#24, 1000#16, 0#16), (600000#24, 27000#16, 600#16), (49#24, 1000#16, 0#16), (600001#24, 1000#16, 0#16), (50#24, 999#16, 0#16),
        (50#24, 27001#16, 0#16), (50#24, 1000#16, 601#16)].map (fun c => (openRequest? (opening c.1 c.2.1 c.2.2)).isSome) =
      [true, true, false, false, false, false, false] := by decide +kernel

theorem test_meets_OpenParameters : ∃ q, openRequest? (opening 50000#24 10000#16 10#16) = some q :=
  Option.isSome_iff_exists.1 (by decide +kernel)

/-- An OPEN on an idle board: OK with handle 0x00, the bank waking. -/
theorem test_open_ok :
    let t := after (.openLease .a (opening 50000#24 10000#16 0#16)) enabled
    (t.page .a, (t.lease? 0).map (·.state), t.bank 0 |>.state) =
      (⟨0x02#8, 0x10#8, [0x00#8, 0x00#8]⟩, some (.starting .wake), .waking 1600) := by decide +kernel

/-- An OPEN on a held terminal with a wait limit: QUEUED with handle 0x01 and sub-reason TERMINAL. -/
theorem test_open_queued :
    let t := after (.openLease .a (opening 50000#24 10000#16 10#16)) (board (lease (.active false 0)) .on)
    (t.page .a, (t.lease? 1).map (·.state), t.allocator.waitList) =
      (⟨0x03#8, 0x10#8, [0x01#8, 0x01#8]⟩, some (.waiting 10 0), [1]) := by decide +kernel

/-- A table with a record of seat B in every slot; a wait list with eight leases. -/
def fullTable : State := { enabled with engine := { enabled.engine with
  slots := Vector.replicate 32 ⟨0, some { bare (.suspended .requested) with owner := .b }⟩ } }

def fullList : State :=
  let s := board (lease (.active false 0)) .on
  { s with allocator := { s.allocator with waitList := [1, 2, 3, 4, 5, 6, 7, 8] } }

/-- Every refusal of an OPEN after the seat checks, with the state it happens in: parameters, lease quota, table, rail, cell quota, an
attempt with no wait allowed, the full wait list. -/
theorem test_open_refused :
    [(opening 49#24 10000#16 0#16, enabled), (opening 50000#24 10000#16 0#16, enabled.setSeat .a { enabled.seat .a with leaseQuota := 0 }),
        (opening 50000#24 10000#16 0#16, fullTable), (opening 50000#24 11001#16 0#16, enabled),
        (opening 600000#24 10000#16 0#16, enabled.setSeat .a { enabled.seat .a with cellQuota := 5 }),
        (opening 50000#24 10000#16 0#16, board (lease (.active false 0)) .on), (opening 50000#24 10000#16 10#16, fullList)].map (fun c =>
      let t := after (.openLease .a c.1) c.2
      (accepted (.openLease .a c.1) c.2, (t.page .a).status, (t.page .a).payload)) =
      [(true, 0x12#8, [0xFF#8, 0#8]), (true, 0x19#8, [0xFF#8, 0#8]), (true, 0x17#8, [0xFF#8, 0#8]), (true, 0x18#8, [0xFF#8, 5#8]),
        (true, 0x19#8, [0xFF#8, 0#8]), (true, 0x18#8, [0xFF#8, 1#8]), (true, 0x1A#8, [0xFF#8, 1#8])] := by decide +kernel

/-- The hypotheses of the OPEN statements meet, up to a successful attempt and a failed one. -/
theorem test_meets_OpenAdmitsOrQueues :
    let p := opening 50000#24 10000#16 10#16
    (∀ s ∈ [enabled, board (lease (.active false 0)) .on], Accepted (.openLease .a p) s ∧
      s.taken.recordCount .a < (s.taken.seat .a).leaseQuota ∧ (s.taken.bank 0).state ≠ .disabled ∧
      11000 ≤ (s.taken.bank 0).rail ∧ s.taken.allocator.waitList.length < 8) ∧
    enabled.taken.lease? 0 = none ∧ (board (lease (.active false 0)) .on).taken.lease? 1 = none ∧
    (openRequest? p).map (fun q => (q.target, q.compliance, q.waitLimit)) = some (50000, 10000, 10) ∧
    (openRequest? p).map (fun q => (enabled.taken.attempt (q.lease .a)).toOption) = some (some 0) ∧
    (openRequest? p).map (fun q => ((board (lease (.active false 0)) .on).taken.attempt (q.lease .a)).toOption) = some none := by
  refine ⟨fun s hs => ?_, by decide +kernel, by decide +kernel, by decide +kernel, by decide +kernel, by decide +kernel⟩
  have h : [enabled, board (lease (.active false 0)) .on].all (fun s => accepted (.openLease .a (opening 50000#24 10000#16 10#16)) s &&
      decide (s.taken.recordCount .a < (s.taken.seat .a).leaseQuota ∧ (s.taken.bank 0).state ≠ .disabled ∧
        11000 ≤ (s.taken.bank 0).rail ∧ s.taken.allocator.waitList.length < 8)) = true := by decide +kernel
  have := (Bool.and_eq_true _ _).mp (List.all_eq_true.1 h s hs)
  exact ⟨accepted_of this.1, of_decide_eq_true this.2⟩

/-- The attempt's four reasons and its success, and the four bank states an admission meets. -/
theorem test_meets_Attempt :
    let l := bare (.waiting 10 0)
    let noQuota := enabled.setSeat .a { enabled.seat .a with cellQuota := 0 }
    let noCells := { enabled with allocator := { enabled.allocator with
      cells := Vector.replicate 24 ⟨.outOfService .test, .failGain, none⟩ } }
    let noBudget := { enabled with banks := Vector.replicate 4 { enabled.bank 0 with budget := 599 } }
    let at' (st : BankState) := (enabled.setBank 0 { enabled.bank 0 with state := st }).attempt l
    [(board (lease .verifying) .on).attempt l, noQuota.attempt l, noCells.attempt l, noBudget.attempt l].map (fun r =>
        match r with | .ok _ => 0#8 | .error e => e.code) = [1#8, 2#8, 3#8, 4#8] ∧
      [at' .on, at' (.waking 1600), at' (.linger 5 0), at' .off].map (·.toOption) = [some 0, some 0, some 0, some 0] := by
  decide +kernel

/-- A waiting lease that fits, one that does not, a lease that does not wait, and a rescan in HOLD. -/
theorem test_meets_Rescan :
    let s := board (bare (.waiting 10 0)) .off
    ((s.attempt (bare (.waiting 10 0))).toOption, ((s.setTerminal 3 ⟨some 0x05#8, .float, .float, false⟩).attempt
        (bare (.waiting 10 0))).toOption) = (some 0, none) ∧
      s.lease? 0 = some (bare (.waiting 10 0)) ∧ s.held = false ∧ (inHold s).held = true ∧
      (s.rescan.lease? 0).map (·.state) = some (.starting .wake) ∧ (s.rescan.seat .a).latched = 0x0002#16 ∧
      s.rescan.allocator.waitList = [] := by decide +kernel

/-! ## Starting, ramps, stops -/

/-- A bank in OFF with rail-good already high goes on to ON in the act that starts its wake, a test has its rail up at once (R37, R41, log 8). -/
theorem test_railGood_already_high :
    let s (b : Bank) := board (lease (.suspended .requested)) .off |>.setBank 0 b
    let good := { enabled.bank 0 with railGood := true }
    let t := after (.resume .a 0x00#8) (s good)
    let u := after (.cellTest .s 1#8 0#8) (enabled.setBank 1 { enabled.bank 1 with railGood := true })
    ((t.bank 0).state, (t.bank 0).claims, t.engine.bankOnNotices, ((after (.resume .a 0x00#8) (s (enabled.bank 0))).bank 0).state) =
        (.on, 1, [0], .waking 1600) ∧
      ((after (.wakeTimeout 0) t).bank 0).state = .on ∧ ((after (.railGoodFall 0) t).bank 0).state = .faulted ∧
      ((u.bank 1).state, (u.selfTest.bind (·.current)).map (·.cell)) = (.testing none, some 6) := by decide +kernel

/-- Every state of a bank a lease can start on. -/
theorem test_meets_Starting : ∀ st ∈ [BankState.on, .off, .waking 7, .linger 3 9],
    (board (lease (.suspended .requested)) st).lease? 0 = some (lease (.suspended .requested)) ∧
      (lease (.suspended .requested)).alloc = some ⟨0, [⟨0, false⟩], 2048, 0, 600⟩ ∧
      ((board (lease (.suspended .requested)) st).bank 0).state = st := by decide +kernel

/-- A ramp of 64 ms starts at the present code; one of 0 ms writes its end code. -/
theorem test_meets_RampStart :
    let s := board (lease (.active false 0)) .on
    let z := board { lease (.active false 0) with rampTime := some 0 } .on
    ((s.startRamp 0 0 Allocation.zeroTargets).lease? 0).bind (·.ramp) = some ⟨50012, 0, 64, 0, 0, [⟨0, 2048, 0⟩]⟩ ∧
      ((z.startRamp 0 0 Allocation.zeroTargets).drive 0).code = 0 ∧
      (Allocation.targetCodes ⟨0, [⟨0, false⟩, ⟨1, false⟩, ⟨2, true⟩], 100, 5, 600⟩) = [(0, 105), (1, 100), (2, 0)] ∧
      s.presentLevel (lease (.active false 0)) = 50012 ∧ s.presentLevel (bare (.closed .expired)) = 0 := by decide +kernel

/-- A zero-time rampdown in flight is completed when the device settles, and then none is in flight. -/
theorem test_settle :
    let s := board { lease (.rampdown (.closed .expired)) with ramp := some (ramp 0 32) } .on
    (s.dueSlot, (s.settle.lease? 0).map (·.state), s.settle.dueSlot, s.settle == (after (.rampComplete 0) s).settle) =
      (some 0, some (.closed .expired), none, true) := by decide +kernel

/-- The 17th step of a ramp to 2048, and RAMP_STEP where no step is left. -/
theorem test_rampStep :
    let s (step : Nat) := board { lease (.starting .ramp) with ramp := some (ramp 64 step) } .on
    (((after (.rampStep 0) (s 16)).drive 0).code, ((after (.rampStep 0) (s 31)).drive 0).code, ((s 0).lease? 0).isSome,
      after (.rampStep 0) (s 32) == (s 32).driveOutputs) = (1088, 2048, true, true) := by decide +kernel

/-- A completion in each of the states a ramp ends in, and with no ramp in flight. -/
theorem test_rampComplete :
    [LeaseState.starting .ramp, .active false 3, .rampdown (.suspended .requested), .rampdown (.closed .expired)].map (fun st =>
      ((after (.rampComplete 0) (board { lease st with ramp := some (ramp 64 32) } .on)).lease? 0).map fun l => (l.state, l.ramp.isSome)) =
      [some (.verifying, false), some (.active false 3, false), some (.suspended .requested, false), some (.closed .expired, false)] := by
  decide +kernel

theorem test_meets_RampCompletion :
    let s := board (lease .verifying) .on
    s.lease? 0 = some (lease .verifying) ∧ (lease .verifying).ramp = none ∧ s.lease? 1 = none ∧
      (lease .verifying).alloc = some ⟨0, [⟨0, false⟩], 2048, 0, 600⟩ := by decide +kernel

/-- A handle that is in the verify queue keeps its place, one of an older generation is displaced, another joins at the end. -/
theorem test_joinVerify :
    let s := { enabled with meas := { enabled.meas with verifyQueue := [0x03#8, 0x01#8] } }
    [0x03#8, 0x23#8, 0x02#8].map (fun h => (s.joinVerify h).meas.verifyQueue) =
      [[0x03#8, 0x01#8], [0x01#8, 0x23#8], [0x03#8, 0x01#8, 0x02#8]] := by decide +kernel

/-- A stop at once: SUSPENDED keeps the cell, CLOSED gives it back, and the bank leaves ON. -/
theorem test_meets_StopAtOnce :
    let s := board (lease (.active false 0)) .on
    ((s.suspendHolding 0 .requested).cell 0, (s.closeHolding 0 .purged).cell 0, ((s.closeHolding 0 .purged).bank 0).state,
      ((s.closeHolding 0 .purged).terminal 3).holder, (s.closeHolding 0 .purged).committed 0) =
      (⟨.allotted 0x00#8, .untested, some 3⟩, ⟨.free, .untested, none⟩, .linger 5 0, none, 0) := by decide +kernel

/-! ## Requests on a lease -/

/-- Each request on a handle is accepted on the lease in each of its states, from its owner and from seat S. -/
theorem test_meets_Subject : ∀ l ∈ leases, ∀ i ∈ [Instr.suspend .a 0#8, .resume .a 0#8, .cancel .a 0#8, .release .a 0#8, .query .a 0#8,
      .adjust .a ⟨0#8, 1#8, 50#24, 0#16⟩, .adjust .a ⟨0#8, 0#8, 50#24, 0#16⟩, .adjust .a ⟨0#8, 2#8, 50#24, 3#16⟩],
    Subject i .a 0#8 (board l .on) 0 l ∧ Subject (.purge .s 0#8) .s 0#8 (board l .on) 0 l := by
  intro l hl i hi
  have h : leases.all (fun l => [Instr.suspend .a 0#8, .resume .a 0#8, .cancel .a 0#8, .release .a 0#8, .query .a 0#8,
      .adjust .a ⟨0#8, 1#8, 50#24, 0#16⟩, .adjust .a ⟨0#8, 0#8, 50#24, 0#16⟩, .adjust .a ⟨0#8, 2#8, 50#24, 3#16⟩].all fun i =>
      subject i .a 0#8 (board l .on) 0 l && subject (.purge .s 0#8) .s 0#8 (board l .on) 0 l) = true := by decide +kernel
  have := (Bool.and_eq_true _ _).mp (List.all_eq_true.1 (List.all_eq_true.1 h l hl) i hi)
  exact ⟨subject_of this.1, subject_of this.2⟩

/-- The status and the lease state after a request, over the nine leases. -/
def outcomes (i : Instr) (x : Seat) (bank : BankState) : List (Byte × Option LeaseState) :=
  leases.map fun l => let t := after i (board l bank); ((t.page x).status, (t.lease? 0).map (·.state))

theorem test_suspend :
    outcomes (.suspend .a 0#8) .a .on =
      [(0x16#8, some (.waiting 10 0)), (0x02#8, some (.suspended .requested)), (0x02#8, some (.rampdown (.suspended .requested))),
        (0x02#8, some (.rampdown (.suspended .requested))), (0x02#8, some (.rampdown (.suspended .requested))),
        (0x02#8, some (.rampdown (.suspended .requested))), (0x16#8, some (.rampdown (.closed .expired))),
        (0x02#8, some (.suspended .requested)), (0x16#8, some (.closed .cancelled))] := by decide +kernel

theorem test_resume :
    outcomes (.resume .a 0#8) .a .on =
      [(0x16#8, some (.waiting 10 0)), (0x16#8, some (.starting .wake)), (0x16#8, some (.starting .ramp)), (0x16#8, some .verifying),
        (0x16#8, some (.active false 0)), (0x02#8, some (.starting .ramp)), (0x16#8, some (.rampdown (.closed .expired))),
        (0x02#8, some (.starting .ramp)), (0x16#8, some (.closed .cancelled))] := by decide +kernel

/-- RESUME of a suspended lease on a faulted bank, and by seat S of a LAPSED owner's lease. -/
theorem test_resume_refused :
    let s := board (lease (.suspended .requested)) .faulted
    let lapsed := s.setSeat .a { s.seat .a with keepalive := .lapsed }
    (((after (.resume .a 0#8) s).page .a).status, ((after (.resume .s 0#8) lapsed).page .s).status) = (0x1E#8, 0x1D#8) := by
  decide +kernel

theorem test_cancel :
    outcomes (.cancel .a 0#8) .a .on =
      [(0x02#8, some (.closed .cancelled)), (0x02#8, some (.closed .cancelled)), (0x02#8, some (.rampdown (.closed .cancelled))),
        (0x02#8, some (.rampdown (.closed .cancelled))), (0x02#8, some (.rampdown (.closed .cancelled))),
        (0x02#8, some (.rampdown (.closed .cancelled))), (0x02#8, some (.rampdown (.closed .expired))),
        (0x02#8, some (.closed .cancelled)), (0x16#8, some (.closed .cancelled))] := by decide +kernel

theorem test_purge :
    (outcomes (.purge .s 0#8) .s .on).map (·.1) = [0x02#8, 0x02#8, 0x02#8, 0x02#8, 0x02#8, 0x02#8, 0x02#8, 0x02#8, 0x16#8] := by
  decide +kernel

theorem test_release :
    let t := after (.release .a 0#8) (board (bare (.closed .cancelled)) .on)
    (t.page .a, t.slot 0, (outcomes (.release .a 0#8) .a .on).map (·.1)) =
      (⟨0x02#8, 0x15#8, []⟩, ⟨1, none⟩, [0x16#8, 0x16#8, 0x16#8, 0x16#8, 0x16#8, 0x16#8, 0x16#8, 0x16#8, 0x02#8]) := by decide +kernel

/-- RELEASE from an enabled tenant in HOLD meets the second half of its statement. -/
theorem test_meets_Release_in_hold :
    let s := inHold (board (bare (.closed .cancelled)) .on)
    (s.mayDispatch .a (frameOf (.release .a 0#8)), s.taken.held, (s.taken.seat .a).enabled, (s.taken.seat .a).keepalive) =
      (true, true, true, .disarmed) := by decide +kernel

/-- QUERY by the owner clears the changed flag; the first bytes of the record. -/
theorem test_query :
    let t := after (.query .a 0#8) (board { lease (.active true 0) with changed := true, lastMeasurement := some ⟨49900, 9000⟩ } .on)
    ((t.lease? 0).map (·.changed), (t.page .a).payload.take 10, (t.page .a).payload.drop 40) =
      (some false, [0x00#8, 0x13#8, 0x03#8, 0x67#8, 0x59#8, 0x50#8, 0xC3#8, 0x00#8, 0x10#8, 0x27#8],
        [0x01#8, 0xEC#8, 0xC2#8, 0x00#8, 0x28#8, 0x23#8]) := by decide +kernel

/-- LIST FIRST finds the record, LIST NEXT after it does not, a filter of 2 is refused. -/
theorem test_list_walk :
    let s := board (lease .verifying) .on
    let t := after (.listFirst .a (some 0#8)) s
    let u := after (.listNext .a) t
    ((t.page .a).status, (t.seat .a).cursor, (u.page .a).status, (u.seat .a).cursor,
      ((after (.listFirst .a (some 1#8)) s).page .a).status, ((after (.listFirst .a (some 2#8)) s).page .a).status) =
      (0x02#8, 1, 0x04#8, 32, 0x04#8, 0x12#8) := by decide +kernel

theorem test_meets_ListWalk : ∀ i ∈ [Instr.listNext .a, .listFirst .a none, .listFirst .a (some 0#8), .listFirst .a (some 1#8),
    .listFirst .a (some 2#8)], Accepted i (board { lease .verifying with changed := true } .on) := by
  intro i hi
  have h : [Instr.listNext .a, .listFirst .a none, .listFirst .a (some 0#8), .listFirst .a (some 1#8),
    .listFirst .a (some 2#8)].all (fun i => accepted i (board { lease .verifying with changed := true } .on)) = true := by
    decide +kernel
  exact accepted_of (List.all_eq_true.1 h i hi)

/-- GROUP over one record with the tag, over none, for another tenant's seat, and with tag 0. -/
theorem test_group :
    let s := board (lease (.active false 0)) .on
    [(after (.group .a 1#8 0#8 1#8) s).page .a, (after (.group .a 2#8 2#8 1#8) s).page .a, (after (.group .a 1#8 0#8 2#8) s).page .a,
      (after (.group .a 0#8 0#8 1#8) s).page .a] =
      [⟨0x02#8, 0x19#8, [1#8, 0#8]⟩, ⟨0x02#8, 0x19#8, [0#8, 0#8]⟩, ⟨0x13#8, 0x19#8, []⟩, ⟨0x12#8, 0x19#8, []⟩] := by decide +kernel

/-- A GROUP takes a due zero-time completion before the next slot: CANCEL of the suspended lease in slot 0 lets the rescan admit the tagged lease of
slot 1, which is met in VERIFYING, its verify conversion begun, and whose rampdown completes before the next slot. -/
theorem test_group_settles :
    let s := (board (lease (.suspended .requested)) .on).setBank 0 { (board (lease (.suspended .requested)) .on).bank 0 with driving := 1 }
    let w := { bare (.waiting 10 0) with rampTime := some 0 }
    let s := s.putLease 1 w
    let t := after (.group .a 1#8 2#8 1#8) { s with allocator := { s.allocator with waitList := [1] } }
    (t.page .a).payload = [2#8, 0#8] ∧ (t.lease? 0).map (·.state) = some (.closed .cancelled) ∧
      (t.lease? 1).map (·.state) = some (.closed .cancelled) ∧ (t.lease? 1).map (·.rampCount) = some 3#8 ∧
      t.meas.conversion.map (fun c => (c.source, c.handle)) = some (.verify, 0x01#8) ∧ (t.seat .a).latched.has .admitted = true := by decide +kernel

theorem test_meets_Group : Accepted (.group .a 15#8 2#8 1#8) (board (lease (.active false 0)) .on) ∧
    (lease (.active false 0)).tag = some 1 := ⟨accepted_of (by decide +kernel), rfl⟩

/-- ADJUST over the nine leases: a target of 60000 µA. -/
theorem test_adjust :
    (outcomes (.adjust .a ⟨0#8, 1#8, 60000#24, 0#16⟩) .a .on).map (·.1) =
      [0x02#8, 0x16#8, 0x16#8, 0x16#8, 0x02#8, 0x16#8, 0x16#8, 0x02#8, 0x16#8] := by decide +kernel

/-- The clauses of ADJUST on a waiting lease and on an ACTIVE one: form, extension, range, quota, cells, budget. -/
theorem test_adjust_refused :
    let w := board (bare (.waiting 10 0)) .on
    let a := board (lease (.active false 0)) .on
    let quota (s : State) (n : Nat) := s.setSeat .a { s.seat .a with cellQuota := n }
    let filled := { a with allocator := { a.allocator with
      cells := Vector.ofFn fun c => if c.val = 0 then a.cell c else ⟨.outOfService .test, .failGain, none⟩ } }
    [(⟨0#8, 0#8, 0#24, 0#16⟩, w), (⟨0#8, 1#8, 600000#24, 0#16⟩, quota w 5), (⟨0#8, 2#8, 0#24, 3996#16⟩, w),
        (⟨0#8, 4#8, 0#24, 0#16⟩, a), (⟨0#8, 2#8, 0#24, 4046#16⟩, a), (⟨0#8, 1#8, 600000#24, 0#16⟩, quota a 5),
        (⟨0#8, 1#8, 100001#24, 0#16⟩, filled), (⟨0#8, 1#8, 400000#24, 0#16⟩, a)].map (fun (c : AdjustParams × State) =>
      let t := after (.adjust .a c.1) c.2
      ((t.page .a).status, (t.page .a).payload)) =
      [(0x12#8, []), (0x19#8, []), (0x12#8, []), (0x12#8, []), (0x12#8, []), (0x19#8, []), (0x18#8, [3#8]), (0x18#8, [4#8])] := by
  decide +kernel

/-- A retarget of an ACTIVE lease from one cell to two: a cell appended, charge and ramp count follow. -/
theorem test_retarget :
    let t := after (.adjust .a ⟨0#8, 3#8, 150000#24, 10#16⟩) (board (lease (.active false 0)) .on)
    ((t.lease? 0).bind (·.alloc), (t.lease? 0).map fun l => (l.rampCount, l.duration.map (·.remaining)), t.committed 0,
      (t.cell 1).state) =
      (some ⟨0, [⟨0, false⟩, ⟨1, false⟩], 3071, 0, 1800⟩, some (2#8, some 60), 1800, .allotted 0x00#8) := by decide +kernel

theorem test_meets_Retarget :
    adjustRequest? ⟨0#8, 3#8, 150000#24, 10#16⟩ = some ⟨some 150000, some 10⟩ ∧ cellCount .high 150000 = 2 ∧
      (adjustRequest? ⟨0#8, 1#8, 600000#24, 0#16⟩).isSome = true ∧ cellCount .low 30001 = 7 ∧
      (Allocation.rebuilt ⟨0, [⟨0, false⟩, ⟨1, false⟩, ⟨2, true⟩], 9, 0, 9⟩ 2 [4, 5]) = [⟨0, false⟩, ⟨1, false⟩, ⟨2, true⟩] ∧
      (Allocation.rebuilt ⟨0, [⟨0, false⟩, ⟨1, false⟩, ⟨2, true⟩], 9, 0, 9⟩ 1 [4, 5]) = [⟨0, false⟩, ⟨1, true⟩, ⟨2, true⟩] ∧
      (Allocation.rebuilt ⟨0, [⟨0, false⟩, ⟨1, false⟩, ⟨2, true⟩], 9, 0, 9⟩ 3 [4, 5]) = [⟨0, false⟩, ⟨1, false⟩, ⟨2, false⟩] ∧
      (Allocation.rebuilt ⟨0, [⟨0, false⟩, ⟨1, false⟩, ⟨2, true⟩], 9, 0, 9⟩ 4 [4, 5]) =
        [⟨0, false⟩, ⟨1, false⟩, ⟨2, false⟩, ⟨4, false⟩] ∧
      [0, 1, 60, 61].map (fun n => (Duration.reported ⟨.minutes, 9, n⟩, Duration.reported ⟨.seconds, 9, n⟩)) =
        [(0, 0), (1, 1), (1, 60), (2, 61)] := by decide +kernel

/-- A leaving cell is freed with code 0 and leaves the list, the lead cell stays. -/
theorem test_freeLeaving :
    let a : Allocation := ⟨0, [⟨0, false⟩, ⟨1, true⟩], 2048, 0, 600⟩
    let s := (board { lease (.suspended .requested) with alloc := some a } .on).setCell 1 ⟨.allotted 0x00#8, .pass, some 3⟩
    let t := (s.setDrive 1 ⟨7, .high⟩).freeLeaving 0
    (((t.lease? 0).bind (·.alloc)).map (·.cells), t.cell 1, t.drive 1, t.cell 0) =
      (some [⟨0, false⟩], ⟨.free, .pass, none⟩, ⟨0, .high⟩, ⟨.allotted 0x00#8, .untested, some 3⟩) := by decide +kernel

/-! ## Seats and events -/

/-- TOUCH on an ARMED, a LAPSED and a DISARMED keepalive, and on a LAPSED one whose period is 0. -/
theorem test_touch :
    [keeping (.armed 3 77) 30, keeping .lapsed 30, keeping .disarmed 30, keeping .lapsed 0].map (fun s =>
      let t := after (.touch .a) s; ((t.page .a).status, (t.seat .a).keepalive, (t.seat .a).latched)) =
      [(0x02#8, .armed 30 0, 0x0011#16), (0x02#8, .armed 30 0, 0x0001#16), (0x02#8, .disarmed, 0x0011#16),
        (0x02#8, .disarmed, 0x0001#16)] := by decide +kernel

theorem test_meets_Touch : Accepted (.touch .a) (inHold (keeping .lapsed 30)) := accepted_of (by decide +kernel)

/-- EVENTS acknowledging STARTED and LAPSED while LAPSED holds: the payload tells the marks before, and the mask after. -/
theorem test_events :
    let s := enabled.setSeat .a { enabled.seat .a with keepalive := .lapsed, latched := 0x0011#16 }
    let t := after (.events .a 0x0011#16 (some 0x0001#16)) s
    (t.page .a, (t.seat .a).latched, (t.seat .a).acked, (t.seat .a).mask) =
      (⟨0x02#8, 0x1B#8, [0x11#8, 0x00#8, 0x00#8, 0x00#8, 0x01#8, 0x00#8]⟩, 0x0010#16, 0x0010#16, 0x0001#16) := by decide +kernel

/-- EVENTS with an undefined event, after the condition has ended, and deferred for a tenant in HOLD. -/
theorem test_events_clauses :
    let s := enabled.setSeat .a { enabled.seat .a with latched := 0x0011#16 }
    (((after (.events .a 0x0200#16 none) s).page .a).status, ((after (.events .a 0x0010#16 none) s).seat .a).latched,
      ((after (.events .a 0x0011#16 none) (inHold s)).seat .a).latched) = (0x12#8, 0x0001#16, 0x0011#16) := by decide +kernel

theorem test_meets_Events : Accepted (.events .a 0x0200#16 none) enabled ∧ Accepted (.events .a 0x0011#16 none) (inHold enabled) :=
  ⟨accepted_of (by decide +kernel), accepted_of (by decide +kernel)⟩

/-- STATUS of the board with one ACTIVE lease. -/
theorem test_status :
    ((after (.status .b) (inHold (board (lease (.active false 0)) .on))).page .b).payload =
      [1#8, 3#8, 0x58#8, 0x02#8, 1#8, 0#8, 0#8, 1#8, 0#8, 0#8, 1#8, 0#8, 0#8, 23#8, 1#8, 0#8] ++
        [0xFF#8, 0xFF#8, 0xFF#8, 0x00#8] ++ List.replicate 12 0xFF#8 ++ [0xF7#8, 0xFF#8, 1#8, 0#8] := by decide +kernel

/-- CELL QUERY of bank 0 with cell 0 allotted, and of bank 4. -/
theorem test_cellQuery :
    let s := board (lease (.active false 0)) .on
    (((after (.cellQuery .s 0#8) s).page .s).payload.take 14, ((after (.cellQuery .s 4#8) s).page .s).status) =
      ([1#8, 0x00#8, 0#8, 0#8, 2#8, 0x00#8, 0x08#8, 0#8, 0xFF#8, 0#8, 0#8, 0#8, 0#8, 0#8], 0x12#8) := by decide +kernel

theorem test_meets_StatusAndCellQuery : Accepted (.status .a) enabled ∧ Accepted (.cellQuery .s 3#8) enabled :=
  ⟨accepted_of (by decide +kernel), accepted_of (by decide +kernel)⟩

/-- SEAT SET of seat B: enable off, a taken address, a lease quota, a record held, period and policy. -/
theorem test_seatSet :
    let owned := board { bare (.suspended .requested) with owner := .b } .off
    [(⟨2#8, 2#8, 0#8, 0#8, 0#8, 0#8, 0#8, 0#8⟩, enabled), (⟨2#8, 1#8, 0x60#8, 0#8, 0#8, 0#8, 0#8, 0#8⟩, enabled),
        (⟨2#8, 4#8, 0#8, 0#8, 0#8, 0#8, 0#8, 0#8⟩, owned), (⟨2#8, 2#8, 0#8, 0#8, 0#8, 0#8, 0#8, 0#8⟩, owned),
        (⟨2#8, 48#8, 0#8, 0#8, 0#8, 0#8, 20#8, 1#8⟩, enabled), (⟨3#8, 18#8, 0#8, 1#8, 0#8, 0#8, 20#8, 0#8⟩, inHold enabled),
        (⟨0#8, 4#8, 0#8, 0#8, 1#8, 0#8, 0#8, 0#8⟩, enabled)].map (fun (c : SeatSetParams × State) =>
      let t := after (.seatSet .s c.1) c.2
      ((t.page .s).status, (t.seat .b).enabled, (t.seat .b).keepalive, (t.seat .c).latched)) =
      [(0x02#8, false, .disarmed, 0#16), (0x12#8, true, .disarmed, 0#16), (0x12#8, true, .disarmed, 0#16),
        (0x20#8, true, .disarmed, 0#16), (0x02#8, true, .armed 20 0, 0#16), (0x02#8, true, .disarmed, 0x0020#16),
        (0x12#8, true, .disarmed, 0#16)] := by decide +kernel

theorem test_meets_SeatSet : Accepted (.seatSet .s ⟨2#8, 63#8, 0x08#8, 1#8, 32#8, 24#8, 255#8, 1#8⟩) enabled ∧
    Accepted (.seatSet .s ⟨5#8, 1#8, 0x08#8, 0#8, 0#8, 0#8, 0#8, 0#8⟩) enabled ∧
    (seatSetRequest? ⟨2#8, 63#8, 0x08#8, 1#8, 32#8, 24#8, 255#8, 1#8⟩).isSome = true ∧
    seatSetRequest? ⟨5#8, 1#8, 0x08#8, 0#8, 0#8, 0#8, 0#8, 0#8⟩ = none :=
  ⟨accepted_of (by decide +kernel), accepted_of (by decide +kernel), by decide +kernel, by decide +kernel⟩

/-! ## Banks, cells, terminals -/

/-- BANK SET: rail, budget, linger and enable at a bank in use and not in use, and the strap-disabled bank. -/
theorem test_bankSet :
    let used := board (lease (.active false 0)) .on
    let strapped := enabled.setBank 3 { enabled.bank 3 with strapEnabled := false, state := .disabled }
    [(⟨1#8, 7#8, 28000#16, 20000#16, 60#8, 0#8⟩, enabled), (⟨0#8, 1#8, 3000#16, 0#16, 0#8, 0#8⟩, used),
        (⟨0#8, 2#8, 0#16, 599#16, 0#8, 0#8⟩, used), (⟨0#8, 8#8, 0#16, 0#16, 0#8, 0#8⟩, used),
        (⟨1#8, 8#8, 0#16, 0#16, 0#8, 0#8⟩, enabled), (⟨3#8, 8#8, 0#16, 0#16, 0#8, 1#8⟩, strapped),
        (⟨1#8, 1#8, 3050#16, 0#16, 0#8, 0#8⟩, enabled)].map (fun (c : BankSetParams × State) =>
      let t := after (.bankSet .s c.1) c.2
      ((t.page .s).status, (t.bank 1).rail, (t.bank 1).state)) =
      [(0x02#8, 28000, .off), (0x1F#8, 12000, .off), (0x1F#8, 12000, .off), (0x1F#8, 12000, .off), (0x02#8, 12000, .disabled),
        (0x1E#8, 12000, .off), (0x12#8, 12000, .off)] := by decide +kernel

/-- BANK CLEAR of a faulted bank, of one that is not, and of bank 4. -/
theorem test_bankClear :
    let s := (enabled.setBank 1 { enabled.bank 1 with state := .faulted, driving := 1 }).setSeat .s
      { enabled.seat .s with latched := 0x0040#16, acked := 0x0040#16 }
    [(1#8, s), (0#8, s), (4#8, s)].map (fun (c : Byte × State) =>
      let t := after (.bankClear .s c.1) c.2; ((t.page .s).status, (t.bank 1).state, (t.seat .s).latched)) =
      [(0x02#8, .off, 0#16), (0x16#8, .faulted, 0x0040#16), (0x12#8, .faulted, 0x0040#16)] := by decide +kernel

theorem test_meets_BankSet : Accepted (.bankSet .s ⟨1#8, 7#8, 28000#16, 20000#16, 60#8, 0#8⟩) enabled ∧
    Accepted (.bankClear .s 3#8) enabled ∧ (bankSetRequest? ⟨1#8, 15#8, 28000#16, 20000#16, 60#8, 1#8⟩).isSome = true ∧
    bankSetRequest? ⟨4#8, 8#8, 0#16, 0#16, 0#8, 1#8⟩ = none :=
  ⟨accepted_of (by decide +kernel), accepted_of (by decide +kernel), by decide +kernel, by decide +kernel⟩

/-- CELL OUT of a free cell, of an allotted one, of cell 24; CELL IN of a cell out of service and of a free one. -/
theorem test_cellOut_cellIn :
    let s := board (lease (.active false 0)) .on
    let o := s.setCell 5 ⟨.outOfService .test, .failLeak, none⟩
    ([(1#8, s), (0#8, s), (24#8, s)].map (fun (c : Byte × State) => ((after (.cellOut .s c.1) c.2).page .s).status),
      ((after (.cellOut .s 1#8) s).cell 1).state, [5#8, 23#8].map (fun c => ((after (.cellIn .s c) o).page .s).status),
      (after (.cellIn .s 5#8) o).cell 5) =
      ([0x02#8, 0x16#8, 0x12#8], .outOfService .supervisor, [0x02#8, 0x16#8], ⟨.free, .failLeak, none⟩) := by decide +kernel

/-- TERMINAL SET on a terminal without a holder, on a held one, on terminal 16. -/
theorem test_terminalSet :
    let s := board (lease (.active false 0)) .on
    [(15#8, 15), (3#8, 3), (16#8, 0)].map (fun (c : Byte × Fin 16) =>
      let t := after (.terminalSet .s c.1 1#8) s
      ((t.page .s).status, (t.terminal c.2).idle, (t.terminal c.2).requested)) =
      [(0x02#8, .float, .float), (0x02#8, .discharge, .float), (0x12#8, .discharge, .discharge)] := by decide +kernel

theorem test_meets_CellOut : Accepted (.cellOut .s 23#8) enabled ∧ Accepted (.cellIn .s 0#8) (inHold enabled) ∧
    Accepted (.terminalSet .s 15#8 1#8) enabled ∧ (enabled.taken.bank 3).strapEnabled = true :=
  ⟨accepted_of (by decide +kernel), accepted_of (by decide +kernel), accepted_of (by decide +kernel), by decide +kernel⟩

/-! ## The scan -/

/-- SCAN SET, SCAN START of the new configuration, SCAN STOP. -/
theorem test_scan_requests :
    let t := after (.scanSet .s ⟨8#8, 0#8, 100#8, 1#8, 15#8⟩) enabled
    let u := after (.scanStart .s) t
    let v := after (.scanStop .s) u
    (t.meas.pending, t.meas.active, u.meas.active, u.meas.position, v.meas.running,
      ((after (.scanSet .s ⟨3#8, 0#8, 100#8, 0#8, 0#8⟩) enabled).page .s).status) =
      (⟨8, false, 100, .lock 15⟩, ScanConfig.reset, ⟨8, false, 100, .lock 15⟩, 15, false, 0x12#8) := by decide +kernel

theorem test_meets_Scan : Accepted (.scanSet .s ⟨8#8, 0#8, 100#8, 1#8, 15#8⟩) enabled ∧ Accepted (.scanStart .s) enabled ∧
    Accepted (.scanStop .s) enabled ∧ scanConfig? ⟨1#8, 1#8, 1#8, 0#8, 255#8⟩ = some ⟨1, true, 1, .roundRobin⟩ ∧
    scanConfig? ⟨8#8, 0#8, 100#8, 1#8, 15#8⟩ = some ⟨8, false, 100, .lock 15⟩ ∧ scanConfig? ⟨1#8, 1#8, 1#8, 1#8, 16#8⟩ = none :=
  ⟨accepted_of (by decide +kernel), accepted_of (by decide +kernel), accepted_of (by decide +kernel), by decide +kernel,
    by decide +kernel, by decide +kernel⟩

/-- The verify queue [stale, valid] starts the valid entry; a scan visit starts at T3 in both modes; a stopped scan starts nothing. -/
theorem test_reconsider :
    let v := board (lease .verifying) .on
    let queued := { v with meas := { v.meas with verifyQueue := [0x05#8, 0x00#8] } }
    let a := board (lease (.active false 0)) .on
    let locked := { a with meas := { a.meas with active := { a.meas.active with mode := .lock 3 } } }
    let stopped := { a with meas := { a.meas with running := false } }
    [queued, a, locked, stopped].map (fun s => s.reconsider.meas.conversion.map fun c => (c.terminal, c.source, c.rampStamp)) =
      [some (3, .verify, 1#8), some (3, .scan, 1#8), some (3, .scan, 1#8), none] := by decide +kernel

theorem test_meets_Reconsider :
    let a := board (lease (.active false 0)) .on
    a.meas.conversion = none ∧ a.meas.running = true ∧ a.meas.visitDue = true ∧ a.meas.active.mode = .roundRobin ∧
      (a.terminal 3).holder = some 0x00#8 ∧ a.resolve 0x00#8 = some (0, lease (.active false 0)) ∧ a.resolve 0x05#8 = none ∧
      (lease (.active false 0)).ramp = none ∧ enabled.reconsider.meas.conversion = none := by decide +kernel

/-- A conversion for the lease, of a source. -/
def converting (src : Source) : State :=
  let s := board (lease (match src with | .verify => .verifying | .scan => .active false 0)) .on
  { s with meas := { s.meas with conversion := some ⟨3, src, 0x00#8, 1#8, 2, true, 96⟩, visitDue := false } }

/-- The mean of 49990 and 50031 less 20 is 49991 with halves upward; a scan restarts the dwell, a verify does not. -/
theorem test_conversionComplete :
    let t := after (.conversionComplete ⟨[49990, 50031], [9000, 9000], some (20, 0)⟩) (converting .scan)
    let u := after (.conversionComplete ⟨[49990, 50031], [9000, 9000], some (20, 0)⟩) (converting .verify)
    (t.engine.results, t.meas.dwell, t.meas.conversion.isSome, u.engine.results.length, u.meas.dwell) =
      ([⟨3, .scan, 0x00#8, 1#8, 49991, 9000⟩], some 320, false, 1, none) := by decide +kernel

/-- Samples of each wrong shape, and a completion with no conversion in flight: nothing is handed. -/
theorem test_conversion_mismatched :
    let s := converting .scan
    [⟨[1], [1, 2], some (0, 0)⟩, ⟨[1, 2], [1], some (0, 0)⟩, ⟨[1, 2], [1, 2], none⟩].map (fun m =>
        let t := after (.conversionComplete m) s
        (t.engine.results, t.meas.conversion == s.settle.meas.conversion)) = List.replicate 3 ([], true) ∧
      enabled.settle.meas.conversion = none ∧ (after (.conversionComplete ⟨[], [], none⟩) enabled).engine.results = [] := by
  decide +kernel

/-- The dwell elapses and the next visit starts; without a dwell nothing changes. -/
theorem test_dwellElapses :
    let s := board (lease (.active false 0)) .on
    let d := { s with meas := { s.meas with visitDue := false, dwell := some 0 } }
    ((after .dwellElapses d).meas.conversion.isSome, (after .dwellElapses { d with meas := { d.meas with dwell := none } }).meas.conversion) =
      (true, none) := by decide +kernel

/-- The settled states meet the hypotheses of the conversion and dwell clauses, and the ends of the figures. -/
theorem test_meets_Conversion :
    (converting .scan).settle.meas.conversion = some ⟨3, .scan, 0x00#8, 1#8, 2, true, 96⟩ ∧
      (converting .verify).settle.meas.conversion = some ⟨3, .verify, 0x00#8, 1#8, 2, true, 96⟩ ∧
      (converting .scan).settle.meas.running = true ∧ enabled.settle.meas.dwell = none ∧
      figuresOf ⟨[700001], [30001], none⟩ = ⟨700000, 30000⟩ ∧ figuresOf ⟨[0], [1], some (5, 0)⟩ = ⟨0, 1⟩ := by decide +kernel

/-- A board with one result delivered. -/
def delivered (l : Lease) (r : Result) : State :=
  let s := board l .on
  { s with engine := { s.engine with results := [r] } }

/-- A verify result over the compliance limit, under half the target, good, and stale. -/
theorem test_resultDelivery_verify :
    [(⟨3, .verify, 0x00#8, 1#8, 50000, 10001⟩ : Result), ⟨3, .verify, 0x00#8, 1#8, 24999, 10000⟩,
        ⟨3, .verify, 0x00#8, 1#8, 25000, 10000⟩, ⟨3, .verify, 0x00#8, 2#8, 25000, 10000⟩].map (fun r =>
      ((after .resultDelivery (delivered (lease .verifying) r)).lease? 0).map (·.state)) =
      [some (.suspended (.fault .compliance)), some (.suspended (.fault .openLoad)), some (.active false 0), some .verifying] := by
  decide +kernel

/-- A scan result: the first over the limit, the second, one low by more than the tolerance, one in HOLD. -/
theorem test_resultDelivery_scan :
    let r (c v : Nat) : Result := ⟨3, .scan, 0x00#8, 1#8, c, v⟩
    let held := inHold (delivered (lease (.active false 0)) (r 49499 9000))
    [delivered (lease (.active false 0)) (r 50000 10001), delivered (lease (.active true 0)) (r 50000 10001),
        delivered (lease (.active true 0)) (r 49499 9000), held].map (fun s =>
      let t := after .resultDelivery s
      ((t.lease? 0).map (·.state), ((t.lease? 0).bind (·.alloc)).map (·.trim), t.pool.notices.length)) =
      [(some (.active true 0), some 0, 1), (some (.suspended (.fault .compliance)), some 0, 2), (some (.active false 0), some 1, 1),
        (some (.active false 0), some 0, 1)] := by decide +kernel

theorem test_meets_Result :
    let s := delivered (lease (.active true 5)) ⟨3, .scan, 0x00#8, 1#8, 49499, 9000⟩
    s.settle.engine.results = [⟨3, .scan, 0x00#8, 1#8, 49499, 9000⟩] ∧ s.resolve 0x00#8 = some (0, lease (.active true 5)) ∧
      (s.terminal 3).holder = some 0x00#8 ∧ enabled.settle.engine.results = [] ∧
      ((s.trimStep 0 49499).drive 0).code = 2049 ∧ s.trimStep 0 49500 = s ∧
      (let a : Allocation := ⟨0, [⟨0, false⟩], 2048, 63, 600⟩
       ((board { lease (.active true 5) with alloc := some a } .on).trimStep 0 49499).pool.notices =
        [.fault 3 .trimLimit false]) := by decide +kernel

/-! ## Faults and rails -/

/-- The fault path under each policy, with the rail-lost mark. -/
theorem test_meets_FaultPath :
    [FaultPolicy.suspend, .close].map (fun p =>
      let s := (board { lease (.active false 0) with policy := p } .on).faultPath 0 .railLost
      ((s.lease? 0).map fun l => (l.state, l.railLost), s.pool.notices)) =
      [(some (.suspended (.fault .railLost), true), [.fault 3 .railLost false]),
        (some (.closed (.fault .railLost), true), [.fault 3 .railLost true])] := by decide +kernel

/-- Rail-good seen high in WAKING with a claim, in WAKING without, and in OFF. -/
theorem test_railGoodRise :
    [board (lease (.starting .wake)) (.waking 5), enabled.setBank 0 { enabled.bank 0 with state := .waking 5 }, enabled].map (fun s =>
      let t := after (.railGoodRise 0) s; ((t.bank 0).state, t.engine.bankOnNotices, (t.bank 0).railGood)) =
      [(.on, [0], true), (.linger 5 0, [], true), (.off, [], true)] := by decide +kernel

/-- Rail-good seen low in ON is rail loss; in OFF it is not. -/
theorem test_railGoodFall :
    let t := after (.railGoodFall 0) (board (lease (.active false 0)) .on)
    ((t.bank 0).state, (t.lease? 0).map (·.state), (t.drive 0).code, (t.seat .s).latched,
      ((after (.railGoodFall 0) enabled).bank 0).state) =
      (.faulted, some (.suspended (.fault .railLost)), 0, 0x0040#16, .off) := by decide +kernel

/-- The wake timeout in WAKING is rail loss; in ON it has no effect. -/
theorem test_wakeTimeout :
    (((after (.wakeTimeout 0) (board (lease (.starting .wake)) (.waking 0))).bank 0).state,
      ((after (.wakeTimeout 0) (board (lease .verifying) .on)).bank 0).state) = (.faulted, .on) := by decide +kernel

/-- Every bank state the rail statement names stays as it is when the board settles, and rail loss meets each lease state. -/
theorem test_meets_RailGood :
    (∀ st ∈ [BankState.waking 5, .testing (some 5), .testing none, .on, .linger 1 1, .off, .disabled, .faulted],
      ((board (lease (.suspended .requested)) st).settle.bank 0).state = st) ∧
      leases.map (fun l => (((board l .faulted).railLossLease 0).lease? 0).map (·.state)) =
        [some (.waiting 10 0), some (.suspended (.fault .railLost)), some (.suspended (.fault .railLost)),
          some (.suspended (.fault .railLost)), some (.suspended (.fault .railLost)), some (.suspended .requested),
          some (.closed .expired), some (.suspended .requested), some (.closed .cancelled)] := by decide +kernel

/-- Rail loss ends the test of its bank with the cell INCOMPLETE and code 0, and rescans: a waiting lease is admitted to another bank. -/
theorem test_rail_loss_ends_test :
    let l := { bare (.waiting 10 0) with tag := none }
    let s := (testing .low .gain).putLease 0 l
    let t := after (.railGoodFall 1) { s with allocator := { s.allocator with waitList := [0] } }
    (t.selfTest.isSome, t.cell 11, (t.drive 11).code, (t.bank 1).state, (t.seat .s).latched, (t.lease? 0).map (·.state)) =
      (false, ⟨.free, .incomplete, none⟩, 0, .faulted, 0x00C0#16, some (.starting .wake)) ∧
    leases.map (fun l => (board l .on).railLossGivesBack 0) =
      [false, false, false, false, false, false, true, false, false] := by decide +kernel

/-! ## Timers and notices -/

/-- An empty slot has no duration and no wait to count. -/
theorem test_empty_slot_seconds : enabled.settle.lease? 5 = none ∧
    [Instr.durationSecond 5, .durationExpiry 5, .waitSecond 5, .waitTimerExpiry 5].map (fun i =>
      let t := after i enabled
      ((t.lease? 5).isSome, t.allocator.waitExpiryNotices)) = List.replicate 4 (false, []) := by decide +kernel

/-- A second of a duration, its last second by either row, a second of a wait, its last second by either row, and HOLD. -/
theorem test_lease_seconds :
    let ending := { lease (.active false 9) with duration := some ⟨.seconds, 100, 1⟩ }
    [(.durationSecond 0, board (lease (.active false 9)) .on), (.durationExpiry 0, board (lease (.active false 9)) .on),
        (.durationSecond 0, board ending .on), (.durationExpiry 0, board ending .on),
        (.waitSecond 0, board (bare (.waiting 10 9)) .on), (.durationExpiry 0, inHold (board ending .on))].map
      (fun (c : Instr × State) => ((after c.1 c.2).lease? 0).map fun l => (l.state, l.duration.map (·.remaining))) =
      [some (.active false 0, some 49), some (.active false 9, some 50), some (.rampdown (.closed .expired), some 0),
        some (.rampdown (.closed .expired), some 0), some (.waiting 9 0, some 50), some (.active false 9, some 1)] ∧
    [Instr.waitSecond 0, .waitTimerExpiry 0].map (fun i =>
      let t := after i (board (bare (.waiting 1 9)) .on)
      (t.allocator.waitExpiryNotices, (t.lease? 0).map (·.state))) =
      [([0x00#8], some (.waiting 0 0)), ([0x00#8], some (.waiting 0 0))] := by decide +kernel

/-- A SUSPEND after the last second finds the lease expired, one before it keeps remaining above 0 (R79). -/
theorem test_expiry_is_one_act :
    let ending := board { lease (.active false 9) with duration := some ⟨.seconds, 100, 1⟩ } .on
    let suspended (s : State) := let t := after (.suspend .a 0x00#8) s
      ((t.page .a).status, (t.lease? 0).map fun l => (l.state, l.duration.map (·.remaining)))
    (suspended (after (.durationSecond 0) ending), suspended ending) =
      ((0x16#8, some (.rampdown (.closed .expired), some 0)),
        (0x02#8, some (.rampdown (.suspended .requested), some 1))) := by decide +kernel

/-- A second of a keepalive and of a linger, and the last one by either row. -/
theorem test_seat_and_bank_seconds :
    let bank (n : Nat) := enabled.setBank 1 { enabled.bank 1 with state := .linger n 8 }
    (((after (.keepaliveSecond .a) (keeping (.armed 3 9) 30)).seat .a).keepalive, ((after (.lingerSecond 1) (bank 2)).bank 1).state,
        ((after (.lingerExpiry 1) (bank 2)).bank 1).state) = (.armed 2 0, .linger 1 0, .linger 2 8) ∧
      [Instr.keepaliveSecond .a, .keepaliveExpiry .a].map (fun i => let t := after i (keeping (.armed 1 0) 30)
        (t.engine.lapseNotices, (t.seat .a).keepalive)) = List.replicate 2 ([⟨.a, .suspendAll⟩], .lapsed) ∧
      [Instr.lingerSecond 1, .lingerExpiry 1].map (fun i => ((after i (bank 1)).bank 1).state) = [.off, .off] := by decide +kernel

/-- Settled states that meet the hypotheses of the seconds and expiries, one on each side of the last second. -/
theorem test_meets_Seconds :
    let l (n : Nat) := { lease (.active false 9) with duration := some ⟨.seconds, 100, n⟩ }
    (∀ n ∈ [1, 2], (board (l n) .on).settle.lease? 0 = some (l n)) ∧
      (∀ n ∈ [0, 1, 2], (board (bare (.waiting n 9)) .on).settle.lease? 0 = some (bare (.waiting n 9))) ∧
      (∀ n ∈ [1, 2], ((keeping (.armed n 0) 30).settle.seat .a).keepalive = .armed n 0 ∧
        ((enabled.setBank 1 { enabled.bank 1 with state := .linger n 8 }).settle.bank 1).state = .linger n 8) ∧
      (board (l 1) .on).settle.held = false ∧ (inHold enabled).settle.held = true ∧
      (keeping (.armed 1 0) 30).settle.held = false ∧ (enabled.settle.seat .a).policy = some .suspendAll := by
  decide +kernel

/-- A bank-on notice moves the claim to a start ramp; one that was not handed does nothing. -/
theorem test_bankOnNotice :
    let s := board (lease (.starting .wake)) .on
    let t := after (.bankOnNotice 0) { s with engine := { s.engine with bankOnNotices := [0] } }
    ((t.lease? 0).map (·.state), (t.bank 0).driving, (t.bank 0).claims, ((after (.bankOnNotice 0) s).lease? 0).map (·.state)) =
      (some (.starting .ramp), 1, 0, some (.starting .wake)) := by decide +kernel

/-- A wait-expiry notice closes a waiting lease, and is discarded for one that waits no more. -/
theorem test_waitExpiryNotice :
    let noticed (s : State) := { s with allocator := { s.allocator with waitExpiryNotices := [0x00#8] } }
    let t := after (.waitExpiryNotice 0x00#8) (noticed (board (bare (.waiting 0 0)) .on))
    let u := after (.waitExpiryNotice 0x00#8) (noticed (board (lease .verifying) .on))
    ((t.lease? 0).map (·.state), t.allocator.waitList, (t.seat .a).latched, (u.lease? 0).map (·.state), u.allocator.waitExpiryNotices) =
      (some (.closed .waitExpired), [], 0x0008#16, some .verifying, []) := by decide +kernel

/-- Which lease states a lapse takes something back from: with no leaving cell, with one, and under CLOSE_ALL. -/
theorem test_lapse_gives_back :
    let leaving (l : Lease) : Lease :=
      { l with alloc := l.alloc.map fun a => { a with cells := a.cells ++ [⟨1, true⟩] } }
    let gives (p : LapsePolicy) (f : Lease → Lease) := leases.map fun l => (board (f l) .on).lapseGivesBack p 0
    gives .suspendAll id = List.replicate 9 false ∧
      gives .suspendAll leaving = [false, true, true, true, true, false, false, false, false] ∧
      gives .closeAll id = [false, true, false, false, false, false, false, true, false] := by decide +kernel

/-- A lapse under each policy, over the nine lease states. -/
theorem test_lapseNotice :
    [LapsePolicy.suspendAll, .closeAll].map (fun p => leases.map fun l =>
      let s := board l .on
      ((after (.lapseNotice .a) { s with engine := { s.engine with lapseNotices := [⟨.a, p⟩] } }).lease? 0).map (·.state)) =
      [[some (.closed .lapsed), some (.suspended .lapsed), some (.suspended .lapsed), some (.suspended .lapsed),
          some (.suspended .lapsed), some (.rampdown (.suspended .requested)), some (.rampdown (.closed .expired)),
          some (.suspended .requested), some (.closed .cancelled)],
        [some (.closed .lapsed), some (.closed .lapsed), some (.rampdown (.closed .lapsed)), some (.rampdown (.closed .lapsed)),
          some (.rampdown (.closed .lapsed)), some (.rampdown (.closed .lapsed)), some (.rampdown (.closed .expired)),
          some (.closed .lapsed), some (.closed .cancelled)]] := by decide +kernel

theorem test_meets_Notices :
    let s := board (lease (.starting .wake)) .on
    s.lease? 0 = some (lease (.starting .wake)) ∧ (s.bank 0).state = .on ∧ s.settle.engine.bankOnNotices = [] ∧
      ({ s with engine := { s.engine with lapseNotices := [⟨.b, .suspendAll⟩, ⟨.a, .closeAll⟩] } }).settle.engine.lapseNotices =
        [⟨.b, .suspendAll⟩] ++ ⟨.a, .closeAll⟩ :: [] := by decide +kernel

/-! ## Self-test -/

/-- CELL TEST from OFF, from LINGER, of a bank in use, of a faulted bank, with nothing to test, of bank 4. -/
theorem test_cellTest :
    let bank (st : BankState) := enabled.setBank 1 { enabled.bank 1 with state := st }
    let none' := { enabled with allocator := { enabled.allocator with
      cells := Vector.replicate 24 ⟨.outOfService .test, .failGain, none⟩ } }
    [(1#8, 0#8, bank .off), (1#8, 0#8, bank (.linger 2 0)), (0#8, 0#8, board (lease (.active false 0)) .on),
        (1#8, 0#8, bank .faulted), (1#8, 0#8, none'), (4#8, 0#8, enabled)].map (fun (c : Byte × Byte × State) =>
      let t := after (.cellTest .s c.1 c.2.1) c.2.2
      ((t.page .s).status, (t.bank 1).state, t.selfTest.map fun r => (r.cells, r.current.isSome))) =
      [(0x02#8, .testing (some 1600), some ([6, 7, 8, 9, 10, 11], false)), (0x02#8, .testing none, some ([6, 7, 8, 9, 10, 11], true)),
        (0x1F#8, .off, none), (0x1E#8, .faulted, none), (0x16#8, .off, none), (0x12#8, .off, none)] := by decide +kernel

/-- TEST ABORT with a cell under test, before the rail is up, and with no test. -/
theorem test_testAbort :
    let early := { testing .low .gain with selfTest := some ⟨1, .retain, [11], none, false⟩ }
    [testing .mid .leak, early, enabled].map (fun s =>
      let t := after (.testAbort .s) s
      ((t.page .s).status, t.cell 11, t.selfTest.map (·.abort))) =
      [(0x02#8, ⟨.free, .incomplete, none⟩, none), (0x02#8, ⟨.testing, .untested, none⟩, some true),
        (0x16#8, ⟨.free, .untested, none⟩, none)] := by decide +kernel

/-- A pass goes on to the next check, the ninth pass ends the test, a failure ends the cell. -/
theorem test_testStepComplete :
    [(testing .low .gain, 2375500), (testing .low .leak, 9499), (testing .high .leak, 0), (testing .mid .offset, 250000)].map
      (fun (c : State × Nat) =>
        let t := after (.testStepComplete c.2) c.1
        ((t.cell 11).state, (t.cell 11).lastResult, (t.selfTest.bind (·.current)).map fun u => (u.range, u.check))) =
      [(.testing, .untested, some (.low, .offset)), (.testing, .untested, some (.mid, .gain)), (.free, .pass, none),
        (.outOfService .test, .failOffset, none)] := by decide +kernel

theorem test_meets_CellTest : Accepted (.cellTest .s 1#8 1#8) enabled ∧ Accepted (.testAbort .s) (testing .low .gain) ∧
    enabled.taken.testCells 1 .retestAll = [6, 7, 8, 9, 10, 11] ∧ (testing .low .gain).taken.selfTest.isSome = true ∧
    (testing .low .gain).settle.selfTest = some ⟨1, .retain, [11], some ⟨11, .low, .gain, true, 0⟩, false⟩ ∧
    ((testing .low .gain).railUpNotice 1).selfTest.bind (·.current) = some ⟨11, .low, .gain, true, 64⟩ :=
  ⟨accepted_of (by decide +kernel), accepted_of (by decide +kernel), by decide +kernel, by decide +kernel, by decide +kernel,
    by decide +kernel⟩

/-- The windows of the MID and HIGH ranges at their ends, and the rounding of the load current. -/
theorem test_meets_TestSteps :
    [(Range.mid, 11877), (.mid, 11878), (.mid, 13128), (.mid, 13129), (.high, 47511), (.high, 47512), (.high, 52512), (.high, 52513)].map
        (fun c => checkPasses .gain c.1 c.2) = [false, true, true, false, false, true, true, false] ∧
      [(Range.mid, 249), (.mid, 250), (.high, 999), (.high, 1000)].map (fun c => checkPasses .offset c.1 c.2) =
        [true, false, true, false] ∧
      [(Range.mid, 49), (.mid, 50), (.high, 199), (.high, 200)].map (fun c => checkPasses .leak c.1 c.2) = [true, false, true, false] ∧
      (loadMicroamps 499, loadMicroamps 500) = (0, 1) ∧ (testing .low .gain).mayDrive 11 = true := by decide +kernel

/-- What a seat counts as its own on the board: records in every state, and the cells of its holding records. -/
theorem test_counts :
    leases.map (fun l => ((board l .on).recordCount .a, (board l .on).allottedCount .a, (board l .on).allottedCount .b)) =
      [(1, 0, 0), (1, 1, 0), (1, 1, 0), (1, 1, 0), (1, 1, 0), (1, 1, 0), (1, 1, 0), (1, 1, 0), (1, 0, 0)] := by decide +kernel

/-! ## Pool hold and trip points -/

/-- HOLD with and without the acknowledgement field, a field of 2, and HOLD in HOLD. -/
theorem test_hold :
    [(none, enabled), (some 1#8, enabled), (some 0#8, inHold enabled), (some 2#8, enabled)].map (fun (c : Option Byte × State) =>
      let t := after (.hold .s c.1) c.2
      ((t.page .s).status, t.pool.state, t.seatCtl.ackInHold, (t.seat .a).latched)) =
      [(0x02#8, .hold .request, false, 0x0020#16), (0x02#8, .hold .request, true, 0x0020#16), (0x02#8, .hold .request, false, 0#16),
        (0x12#8, .run, false, 0#16)] := by decide +kernel

/-- RUN ends a hold, clears the acknowledged HOLD event, and rescans; in RUN it changes nothing. -/
theorem test_run :
    let w := inHold (board (bare (.waiting 10 0)) .off)
    let t := after (.run .s) (w.setSeat .b { w.seat .b with latched := 0x0020#16, acked := 0x0020#16 })
    (t.pool.state, (t.seat .b).latched, (t.lease? 0).map (·.state), (after (.run .s) enabled).pool.state) =
      (.run, 0#16, some (.starting .wake), .run) := by decide +kernel

theorem test_meets_HoldAndRun : Accepted (.hold .s (some 1#8)) (inHold enabled) ∧ Accepted (.hold .s (some 2#8)) enabled ∧
    Accepted (.run .s) (inHold enabled) ∧ Accepted (.run .s) enabled ∧ enabled.taken.held = false ∧ (inHold enabled).taken.held = true :=
  ⟨accepted_of (by decide +kernel), accepted_of (by decide +kernel), accepted_of (by decide +kernel), accepted_of (by decide +kernel),
    by decide +kernel, by decide +kernel⟩

/-- TRIP SET, its refusals, TRIP FIRE of it. -/
theorem test_trip_requests :
    let t := after (.tripSet .s ⟨3#8, 15#8, 2#8, 700000#24, 1#8⟩) enabled
    let u := after (.tripFire .s 3#8) t
    (t.pool.trips[(3 : Fin 4)], u.pool.trips[(3 : Fin 4)], u.pool.state, (u.seat .s).latched,
      [(⟨4#8, 0#8, 0#8, 0#24, 0#8⟩ : TripSetParams), ⟨0#8, 16#8, 0#8, 0#24, 0#8⟩, ⟨0#8, 0#8, 3#8, 0#24, 0#8⟩, ⟨0#8, 0#8, 0#8, 700001#24, 0#8⟩,
        ⟨0#8, 0#8, 0#8, 0#24, 2#8⟩].map (fun p => ((after (.tripSet .s p) enabled).page .s).status)) =
      (⟨15, .over, 700000, true, false⟩, ⟨15, .over, 700000, false, true⟩, .hold (.trip 3), 0x0120#16,
        [0x12#8, 0x12#8, 0x12#8, 0x12#8, 0x12#8]) := by decide +kernel

/-- The pool with an armed entry of each condition on T3, and notices handed. -/
def tripped (ns : List PoolNotice) : State :=
  { enabled with pool := { enabled.pool with
    trips := #v[⟨3, .fault, 0, true, false⟩, ⟨3, .close, 0, true, false⟩, ⟨3, .over, 100, true, false⟩, ⟨4, .over, 0, true, false⟩]
    notices := ns } }

/-- A fault notice behind a scan result is taken first; a closing one fires two entries. -/
theorem test_faultNotice :
    [tripped [.scan 3 101, .fault 3 .openLoad false], tripped [.fault 3 .openLoad true], tripped [.scan 3 101]].map (fun s =>
      let t := after .faultNotice s
      (t.pool.trips.toList.map (·.fired), t.pool.state, t.pool.notices.length)) =
      [([true, false, false, false], .hold (.trip 0), 1), ([true, true, false, false], .hold (.trip 0), 0),
        ([false, false, false, false], .run, 1)] := by decide +kernel

/-- A scan result above the threshold fires, one at it does not, and none is taken before a fault notice. -/
theorem test_scanResultMatch :
    [tripped [.scan 3 101], tripped [.scan 3 100], tripped [.fault 3 .openLoad true, .scan 3 101]].map (fun s =>
      let t := after .scanResultMatch s
      (t.pool.trips.toList.map (·.fired), t.pool.state, t.pool.notices.length)) =
      [([false, false, true, false], .hold (.trip 2), 0), ([false, false, false, false], .run, 0),
        ([false, false, false, false], .run, 2)] := by decide +kernel

theorem test_meets_Trips : Accepted (.tripSet .s ⟨3#8, 15#8, 2#8, 700000#24, 1#8⟩) enabled ∧ Accepted (.tripFire .s 4#8) enabled ∧
    tripSetRequest? ⟨3#8, 15#8, 2#8, 700000#24, 1#8⟩ = some (3, ⟨15, .over, 700000, true, false⟩) ∧
    (tripped [.scan 3 101, .fault 3 .openLoad false]).settle.pool.notices = [.scan 3 101] ++ .fault 3 .openLoad false :: [] :=
  ⟨accepted_of (by decide +kernel), accepted_of (by decide +kernel), by decide +kernel, by decide +kernel⟩

end Sys2Proof.Machine.Test
end

section
/-! PROOFS. What a step can be, and that every step keeps the handles sound (R2). -/

namespace Sys2Proof.Machine

open State

/-! ## The port leaves the Lease Engine alone -/

namespace State

variable (s : State)

@[simp] theorem judgeWrite_engine (x : Seat) (bs : List Byte) : (s.judgeWrite x bs).engine = s.engine := by
  unfold judgeWrite
  split
  · rfl
  · rfl
  · simp only
    repeat' split
    all_goals rfl

@[simp] theorem endWrite_engine : s.endWrite.engine = s.engine := by
  unfold endWrite
  split
  · rfl
  · simp

@[simp] theorem writeAddress_engine (a : BitVec 7) : (s.writeAddress a).engine = s.engine := by
  unfold writeAddress
  simp only
  repeat' split
  all_goals simp

@[simp] theorem writeByte_engine (b : Byte) : (s.writeByte b).engine = s.engine := by
  unfold writeByte
  split <;> rfl

@[simp] theorem readPage_engine (a : BitVec 7) (n : Nat) : (s.readPage a n).engine = s.engine := by
  unfold readPage
  simp only
  repeat' split
  all_goals simp

end State

/-! ## What a command can be -/

/-- The kinds of command: a request; an act of a block, which leaves the outside alone and is followed by the output pins; a device
reset; an act of the port, which leaves the Lease Engine alone. -/
inductive CommandKind (i : Instr) : Prop where
  | request (x : Seat) (c : RequestClass) (h : requestOf i = some (x, c))
  | block (act : State → State) (outer : ∀ s, (act s).outer = s.outer) (h : ∀ s, exec i s = .next (act s).driveOutputs)
  | reset (straps : Straps) (h : ∀ s, exec i s = .next (s.deviceReset straps))
  | port (act : State → State) (engine : ∀ s, (act s).engine = s.engine) (h : ∀ s, exec i s = .next (act s))

/-- An act of a block before which the due completions are taken. -/
theorem CommandKind.event {i : Instr} {act : State → State} (outer : ∀ s, (act s).outer = s.outer)
    (h : ∀ s, exec i s = Machine.event act s) : CommandKind i :=
  .block (fun s => act s.settle) (fun s => (outer _).trans s.outer_settle) h

theorem commandKind (i : Instr) : CommandKind i := by
  cases i
  case writeAddress a => exact .port _ (writeAddress_engine · a) fun _ => rfl
  case writeByteReceived b => exact .port _ (writeByte_engine · b) fun _ => rfl
  case writeEnd => exact .port _ endWrite_engine fun _ => rfl
  case readPage a n => exact .port _ (readPage_engine · a n) fun _ => rfl
  case resetHeldLow => exact .port holdReset (fun _ => rfl) fun _ => rfl
  case powerOnReset st => exact .reset st fun _ => rfl
  case pinReset st => exact .reset st fun _ => rfl
  case rampStep k => exact .block _ (outer_rampStep · k) fun _ => rfl
  case rampComplete k => exact .block _ (outer_completeRamp · k) fun _ => rfl
  case railGoodRise b => exact .event (outer_railGoodRise · b) fun _ => rfl
  case railGoodFall b => exact .event (outer_railGoodFall · b) fun _ => rfl
  case wakeTimeout b => exact .event (outer_wakeTimeout · b) fun _ => rfl
  case lingerExpiry b => exact .event (outer_lingerExpiry · b) fun _ => rfl
  case lingerSecond b => exact .event (outer_lingerSecond · b) fun _ => rfl
  case bankOnNotice b => exact .event (outer_takeBankOn · b) fun _ => rfl
  case durationExpiry k => exact .event (outer_durationExpiry · k) fun _ => rfl
  case durationSecond k => exact .event (outer_durationSecond · k) fun _ => rfl
  case waitTimerExpiry k => exact .event (outer_waitTimerExpiry · k) fun _ => rfl
  case waitSecond k => exact .event (outer_waitSecond · k) fun _ => rfl
  case waitExpiryNotice h => exact .event (outer_takeWaitExpiry · h) fun _ => rfl
  case keepaliveExpiry x => exact .event (outer_keepaliveExpiry · x) fun _ => rfl
  case keepaliveSecond x => exact .event (outer_keepaliveSecond · x) fun _ => rfl
  case lapseNotice x => exact .event (outer_takeLapseNotice · x) fun _ => rfl
  case conversionComplete m => exact .event (outer_completeConversion · m) fun _ => rfl
  case dwellElapses => exact .event outer_dwellElapses fun _ => rfl
  case resultDelivery => exact .event outer_deliverResult fun _ => rfl
  case faultNotice => exact .event outer_takeFaultNotice fun _ => rfl
  case scanResultMatch => exact .event outer_takeScanResult fun _ => rfl
  case testStepComplete n => exact .event (outer_completeTestStep · (loadMicroamps n)) fun _ => rfl
  all_goals exact .request _ _ rfl

/-- What a request answers: the state it met, or the response to a refusal, or the response of its body (R131, R167). -/
theorem request_cases {i : Instr} {x : Seat} {c : RequestClass} {p : List Byte} {body : State → Reply} {s t : State}
    (h : request i x c p body s = .next t) :
    t = s ∨ (∃ st, t = s.taken.respond i x st p) ∨
      t = (body s.taken).state.respond i x (body s.taken).status (body s.taken).payload := by
  unfold request at h
  split at h
  · split at h
    · exact .inr (.inl ⟨_, by cases h; rfl⟩)
    · exact .inr (.inr (by cases h; rfl))
  · exact .inl (by cases h; rfl)

/-! ## The handles -/

theorem handlesSound_of_gen {s t : State} (h : ∀ k, (t.slot k).gen = (s.slot k).gen) (hs : s.handlesSound) : t.handlesSound := by
  intro k
  have := hs k
  rwa [handleAt, h]

theorem handlesSound_of_engine {s t : State} (h : t.engine = s.engine) (hs : s.handlesSound) : t.handlesSound :=
  handlesSound_of_gen (fun k => by simp only [slot, h]) hs

/-- The output pins are no part of a handle. -/
theorem handlesSound_driveOutputs {s : State} (hs : s.handlesSound) : s.driveOutputs.handlesSound := hs

/-- The state a request is taken in has the generations of the state it met. -/
theorem handlesSound_taken {s : State} (hs : s.handlesSound) : s.taken.handlesSound :=
  handlesSound_of_engine (s := s.settle) rfl (handlesSound_of_outer s.outer_settle hs)

theorem gen_clockTick (s : State) (k : Fin 32) : (s.clockTick.slot k).gen = (s.slot k).gen := by
  simp [clockTick, slot]

/-- With no command waiting, the device changes no generation. -/
theorem gen_idle (s : State) (k : Fin 32) : (s.idle.slot k).gen = (s.slot k).gen := by
  unfold idle
  split
  · rfl
  · exact gen_clockTick s k

/-- After a device reset every generation is 0 (R7). -/
theorem slot_afterReset (st : Straps) (g : Vector Bool 4) (cs : List Instr) (k : Fin 32) :
    (State.afterReset st g cs).slot k = ⟨0, none⟩ := by
  simp [State.afterReset, LeaseEngine.reset, slot]

theorem handlesSound_afterReset (st : Straps) (g : Vector Bool 4) (cs : List Instr) : (State.afterReset st g cs).handlesSound := by
  intro k
  rw [handleAt, slot_afterReset]
  revert k
  decide

/-- Every command keeps the handles sound: RELEASE and RESTART alone advance a generation, and an advance skips 0xFF (R2). -/
theorem exec_keeps_handlesSound {i : Instr} {s t : State} (hs : s.handlesSound) (h : exec i s = .next t) : t.handlesSound := by
  cases commandKind i with
  | request x c hr =>
    obtain ⟨body, hin, hex⟩ := exec_request hr
    rw [hex] at h
    obtain rfl | ⟨st, rfl⟩ | rfl := request_cases h
    · exact hs
    · exact handlesSound_respond _ _ _ _ (handlesSound_taken hs)
    · exact handlesSound_respond _ _ _ _ (hin.handles _ (handlesSound_taken hs))
  | block act outer hex =>
    rw [hex] at h; cases h
    exact handlesSound_of_outer (outer s) hs
  | reset st hex =>
    rw [hex] at h; cases h
    exact handlesSound_driveOutputs (handlesSound_afterReset _ _ _)
  | port act engine hex =>
    rw [hex] at h; cases h
    exact handlesSound_of_engine (engine s) hs

/-- Settles O5: an act inside the device changes no generation, and the two requests that advance one never reach 0xFF. -/
theorem stepKeepsHandlesSound : Obligations.StepKeepsHandlesSound := by
  unfold Obligations.StepKeepsHandlesSound
  intro s t hs h
  unfold step at h
  split at h
  · refine exec_keeps_handlesSound ?_ h
    exact hs
  · cases h
    exact handlesSound_of_gen (gen_idle s) hs

end Sys2Proof.Machine
end


section
/-! PROOFS. What stands in the tables after a device reset, and that the invariants hold there (R7, R171). -/

namespace Sys2Proof.Machine

open State

/-- Setting the output pins again changes nothing. -/
theorem driveOutputs_of_pinsAgree {s : State} (h : s.pinsAgree) : s.driveOutputs = s := by
  obtain ⟨hswitch, hrail, hattn⟩ := h
  have hterminals : (Vector.ofFn fun t => { s.terminal t with switchClosed := s.switchWanted t }) = s.allocator.terminals := by
    ext1 t ht
    rw [Vector.getElem_ofFn, ← hswitch]
    rfl
  have hbanks : (Vector.ofFn fun b => { s.bank b with railEnable := (s.bank b).state.railEnabled }) = s.banks := by
    ext1 b hb
    rw [Vector.getElem_ofFn, ← hrail]
    rfl
  rw [driveOutputs, hterminals, hbanks, ← hattn]

/-! ## The tables after a device reset -/


section
variable (st : Straps) (g : Vector Bool 4) (cs : List Instr)

@[simp] theorem lease_afterReset (k : Fin 32) : (afterReset st g cs).lease? k = none := by
  simp [lease?, slot_afterReset]

@[simp] theorem resolve_afterReset (h : Handle) : (afterReset st g cs).resolve h = none := by
  simp [resolve]

@[simp] theorem cell_afterReset (c : Fin 24) : (afterReset st g cs).cell c = ⟨.free, .untested, none⟩ := by
  simp [afterReset, Allocator.reset, cell]

@[simp] theorem drive_afterReset (c : Fin 24) : (afterReset st g cs).drive c = ⟨0, .low⟩ := by
  simp [afterReset, drive]

@[simp] theorem terminal_afterReset (t : Fin 16) : (afterReset st g cs).terminal t = ⟨none, .discharge, .discharge, true⟩ := by
  simp [afterReset, Allocator.reset, terminal]

@[simp] theorem committed_afterReset (b : Fin 4) : (afterReset st g cs).committed b = 0 := by
  simp [afterReset, Allocator.reset, committed]

@[simp] theorem bank_afterReset (b : Fin 4) : (afterReset st g cs).bank b = Bank.reset st.bcnt g[b] b := by
  fin_cases b <;> rfl

/-- Every seat's event set is clear after a device reset (R158). -/
theorem seat_afterReset (x : Seat) : ((afterReset st g cs).seat x).latched = 0#16 := by
  cases x <;> rfl

/-- A bank is in OFF or, not enabled by its strap, in DISABLED (R33). -/
theorem reset_state (bcnt : BitVec 2) (good : Bool) (b : Fin 4) :
    (Bank.reset bcnt good b).state = .off ∨ (Bank.reset bcnt good b).state = .disabled := by
  unfold Bank.reset
  simp only
  split <;> simp

/-- An empty lease table puts the next record in slot 0 (R4). -/
theorem emptySlot?_of_empty {s : State} (h : ∀ k, s.lease? k = none) : s.emptySlot? = some 0 := by
  have hall : (fun k => (s.lease? k).isNone) = fun _ => true := funext fun k => by simp [h]
  rw [emptySlot?, hall]
  rfl

/-- With an empty lease table no record is counted (R1). -/
theorem recordCount_of_empty {s : State} (h : ∀ k, s.lease? k = none) (x : Seat) : s.recordCount x = 0 := by
  simp [recordCount, ownedBy, h]

/-- The output pins already stand as a device reset leaves the rest of the state (R33, R45, R163). -/
theorem pinsAgree_afterReset : (afterReset st g cs).pinsAgree := by
  refine ⟨fun t => ?_, fun b => ?_, ?_⟩
  · simp [switchWanted]
  · rw [bank_afterReset]
    rcases reset_state st.bcnt g[b] b with h | h <;> rw [h] <;> rfl
  · have hattn : (afterReset st g cs).attention = false := by simp [attention, pendingEvents, seat_afterReset]
    rw [hattn]
    rfl

theorem portSound_afterReset : (afterReset st g cs).portSound :=
  ⟨Nat.zero_le _, List.nodup_nil, fun _ hf => (List.not_mem_nil hf).elim, trivial⟩

@[simp] theorem waitList_afterReset : (afterReset st g cs).allocator.waitList = [] := rfl

theorem leaseTableSound_afterReset : (afterReset st g cs).leaseTableSound :=
  ⟨⟨by simp, by simp, fun k => by simp⟩, fun k l hl => by simp at hl, fun x => by simp [recordCount_of_empty]⟩

@[simp] theorem leasesOn_afterReset (b : Fin 4) : (afterReset st g cs).leasesOn b = [] := by
  simp [leasesOn]

theorem cellsSound_afterReset : (afterReset st g cs).cellsSound :=
  ⟨fun k l hl => by simp at hl, fun c => by simp [CellState.holder?]⟩

theorem budgetSound_afterReset : (afterReset st g cs).budgetSound := fun b => by simp

theorem banksSound_afterReset : (afterReset st g cs).banksSound := fun b => by
  refine ⟨by simp [Bank.reset], by simp [Bank.reset], ?_⟩
  rw [bank_afterReset, leasesOn_afterReset]
  rcases reset_state st.bcnt g[b] b with h | h <;> simp only [Bank.consistent, h] <;> rfl

theorem holdersSound_afterReset : (afterReset st g cs).holdersSound :=
  ⟨fun k l hl => by simp at hl, fun t => by simp⟩

theorem testSound_afterReset : (afterReset st g cs).testSound := by
  have hnone : (afterReset st g cs).selfTest = none := rfl
  refine ⟨by simp [hnone], fun b => ?_, by simp [hnone], by simp [hnone]⟩
  rw [bank_afterReset, hnone]
  rcases reset_state st.bcnt g[b] b with h | h <;> rw [h] <;> simp [BankState.isTesting]

theorem codesSound_afterReset : (afterReset st g cs).codesSound := fun c hc => by simp at hc

theorem allocationSound_afterReset : (afterReset st g cs).allocationSound := by
  refine ⟨cellsSound_afterReset .., budgetSound_afterReset st g cs, banksSound_afterReset st g cs, holdersSound_afterReset ..,
    testSound_afterReset .., codesSound_afterReset st g cs, fun x => ?_⟩
  simp [allottedCount, CellState.holder?]

/-- The state a device reset leaves is the reset state of the straps, its output pins included. -/
theorem deviceReset_eq (s : State) :
    s.deviceReset st = afterReset st (Vector.ofFn fun b => (s.bank b).railGood) s.pending :=
  driveOutputs_of_pinsAgree (pinsAgree_afterReset ..)

end

/-- Either device reset leaves the reset state of the straps. -/
theorem exec_deviceReset {i : Instr} {st : Straps} (s : State) (h : i = .powerOnReset st ∨ i = .pinReset st) :
    exec i s = .next (afterReset st (Vector.ofFn fun b => (s.bank b).railGood) s.pending) := by
  rw [← deviceReset_eq]
  rcases h with rfl | rfl <;> rfl

/-- Settles O13: the lease table after a device reset is 32 empty slots of generation 0. -/
theorem deviceResetEmptiesLeaseTable : Obligations.DeviceResetEmptiesLeaseTable := by
  unfold Obligations.DeviceResetEmptiesLeaseTable
  intro i st s h
  refine ⟨_, exec_deviceReset s h, slot_afterReset _ _ _, emptySlot?_of_empty (by simp), ?_, recordCount_of_empty (by simp)⟩
  rw [handleAt, slot_afterReset]
  rfl

/-- Settles O7, invariant by invariant: after a device reset no table holds anything that one of them speaks of. -/
theorem resetSatisfiesInvariants : Obligations.ResetSatisfiesInvariants := by
  unfold Obligations.ResetSatisfiesInvariants
  intro good
  have sound (st : Straps) (g : Vector Bool 4) (cs : List Instr) : good (afterReset st g cs) :=
    ⟨pinsAgree_afterReset st g cs, handlesSound_afterReset st g cs, portSound_afterReset st g cs, leaseTableSound_afterReset st g cs,
      allocationSound_afterReset st g cs⟩
  exact ⟨sound .., fun i st s h => ⟨_, exec_deviceReset s h, sound ..⟩⟩

end Sys2Proof.Machine
end


section
/-! PROOFS. Handles: what they name, who may name them, and how RELEASE and RESTART end them (R2, R3, R6, R8). -/

namespace Sys2Proof.Machine

open State

/-! ## A handle is a slot and a generation (R2) -/

theorem toNat_handleOf (k : Fin 32) (g : Fin 8) : (handleOf k g).toNat = 32 * g.val + k.val := by
  simp only [handleOf, BitVec.toNat_ofNat]
  omega

/-- A handle is the one of a slot at a generation exactly when it carries both. -/
theorem eq_handleOf_iff {h : Handle} {k : Fin 32} {g : Fin 8} : h = handleOf k g ↔ handleSlot h = k ∧ handleGen h = g := by
  rw [← BitVec.toNat_inj, toNat_handleOf, Fin.ext_iff, Fin.ext_iff]
  simp only [handleSlot, handleGen]
  omega

/-- The record a handle names (R2, R3). -/
theorem resolve_eq_some {s : State} {h : Handle} {k : Fin 32} {l : Lease} :
    s.resolve h = some (k, l) ↔ h ≠ Config.noLease ∧ h = s.handleAt k ∧ s.lease? k = some l := by
  rw [handleAt, eq_handleOf_iff]
  unfold resolve
  split
  · rename_i hn; simp [hn]
  · rename_i hn
    split
    · rename_i hg
      rw [Option.map_eq_some_iff]
      constructor
      · rintro ⟨m, hm, hk⟩
        obtain ⟨rfl, rfl⟩ := Prod.mk.inj hk
        exact ⟨hn, ⟨rfl, hg.symm⟩, hm⟩
      · rintro ⟨-, ⟨rfl, -⟩, hm⟩
        exact ⟨l, hm, rfl⟩
    · rename_i hg
      refine ⟨nofun, ?_⟩
      rintro ⟨-, ⟨rfl, hk⟩, -⟩
      exact absurd hk.symm hg

/-- The advance of a generation, written out (R2). -/
theorem nextGen_eq (k : Fin 32) (g : Fin 8) :
    nextGen k g = if k = 31 ∧ g = 6 then 0 else if g = 7 then 0 else g + 1 := by
  unfold nextGen
  split
  · rfl
  · split
    · rename_i h; rw [h]; rfl
    · rfl

/-! ## The requests that name a handle (R3) -/

/-- ADJUST of one lease, by state (R67, R87). -/
def adjustLease (p : AdjustParams) (k : Fin 32) (l : Lease) (s : State) : Reply :=
  match l.state with
  | .waiting _ _ => adjustWaiting p k l s
  | .active _ _ => adjustHolding p k l false s
  | .suspended _ => adjustHolding p k l true s
  | .starting _ | .verifying | .rampdown _ | .closed _ => refuse s .wrongState

theorem adjustBody_eq (x : Seat) (p : AdjustParams) (s : State) :
    adjustBody x p s = withRecord x p.handle s fun k l => adjustLease p k l s := rfl

/-- The sender and the handle of a request that names a handle. -/
def handleIn? : Instr → Option (Seat × Handle)
  | .adjust x p => some (x, p.handle)
  | .suspend x h | .resume x h | .cancel x h | .release x h | .query x h | .purge x h => some (x, h)
  | _ => none

/-- A request that names a handle resolves it before anything else. -/
theorem exec_withRecord {i : Instr} {x : Seat} {h : Handle} (hi : handleIn? i = some (x, h)) :
    ∃ (c : RequestClass) (f : State → Fin 32 → Lease → Reply), requestOf i = some (x, c) ∧
      ∀ s, exec i s = request i x c [] (fun s => withRecord x h s (f s)) s := by
  cases i
  case adjust x p => cases hi; exact ⟨_, fun s k l => adjustLease p k l s, rfl, fun _ => rfl⟩
  case suspend => cases hi; exact ⟨_, fun s k l => suspendLease x k l s, rfl, fun _ => rfl⟩
  case resume => cases hi; exact ⟨_, fun s k l => resumeLease k l s, rfl, fun _ => rfl⟩
  case cancel => cases hi; exact ⟨_, fun s k l => cancelLease x k l s, rfl, fun _ => rfl⟩
  case release => cases hi; exact ⟨_, fun s k l => releaseLease k l s, rfl, fun _ => rfl⟩
  case query => cases hi; exact ⟨_, fun s k l => s.readRecord x k l, rfl, fun _ => rfl⟩
  case purge => cases hi; exact ⟨_, fun s k l => purgeLease x k l s, rfl, fun _ => rfl⟩
  all_goals cases hi

/-- A handle that names no record (R3). -/
theorem exec_unknownHandle {i : Instr} {x : Seat} {h : Handle} {s : State} (hi : handleIn? i = some (x, h)) (ha : Accepted i s)
    (hr : s.taken.resolve h = none) : exec i s = .next (s.taken.respond i x .unknownHandle []) := by
  obtain ⟨c, f, hc, he⟩ := exec_withRecord hi
  rw [he, request_of_accepted hc ha, withRecord_unknown hr]
  rfl

/-- A record of another seat, to a tenant (R3). -/
theorem exec_notOwner {i : Instr} {x : Seat} {h : Handle} {s : State} {k : Fin 32} {l : Lease} (hi : handleIn? i = some (x, h))
    (ha : Accepted i s) (hr : s.taken.resolve h = some (k, l)) (hx : x ≠ .s) (ho : l.owner ≠ x) :
    exec i s = .next (s.taken.respond i x .notOwner []) := by
  obtain ⟨c, f, hc, he⟩ := exec_withRecord hi
  rw [he, request_of_accepted hc ha, withRecord_notOwner hr hx ho]
  rfl

/-- Settles O20: the seven requests are `withRecord`, and `resolve` reads the slot and the generation off the handle. -/
theorem handlesAreResolvedFirst : Obligations.HandlesAreResolvedFirst := by
  unfold Obligations.HandlesAreResolvedFirst
  refine ⟨fun i x h s hi ha => ?_, fun s k => ⟨toNat_handleOf .., rfl⟩, fun s h k l => resolve_eq_some⟩
  have hi : handleIn? i = some (x, h) := by
    obtain ⟨p, rfl, rfl⟩ | hi := hi
    · rfl
    · simp only [List.mem_cons, List.not_mem_nil, or_false] at hi
      obtain rfl | rfl | rfl | rfl | rfl | rfl := hi <;> rfl
  exact ⟨exec_unknownHandle hi ha, fun k l => exec_notOwner hi ha⟩

/-! ## RELEASE (R6) -/

theorem nodup_allSlots : allSlots.Nodup := List.nodup_finRange 32

/-- Emptying the slot of a record takes one from its owner's record count (R1). -/
theorem recordCount_emptied {s : State} {k : Fin 32} {l : Lease} (g : Fin 8) (hl : s.lease? k = some l) :
    (s.setSlot k ⟨g, none⟩).recordCount l.owner + 1 = s.recordCount l.owner := by
  have hk : k ∈ allSlots.filter (s.ownedBy l.owner) := by simp [allSlots, ownedBy, hl]
  have hfilter : allSlots.filter ((s.setSlot k ⟨g, none⟩).ownedBy l.owner) = (allSlots.filter (s.ownedBy l.owner)).erase k := by
    rw [List.Nodup.erase_eq_filter (nodup_allSlots.filter _), List.filter_filter]
    refine List.filter_congr fun j _ => ?_
    by_cases hj : k = j
    · subst hj; simp [ownedBy]
    · simp [ownedBy, hj, Ne.symm hj]
  rw [recordCount, hfilter, List.length_erase_of_mem hk, recordCount]
  have := List.length_pos_of_mem hk
  omega

/-- A tenant that is not LAPSED passes the seat checks of a RELEASE, in HOLD too (R131, R137, R152). -/
theorem seatCheck_release {s : State} {x : Seat} (he : (s.seat x).enabled = true) (hk : (s.seat x).keepalive ≠ .lapsed) :
    s.seatCheck x releaseClass = none := by
  simp [seatCheck, he, releaseClass, lapsed, hk]

/-- Settles O36: RELEASE is `emptySlot` for a CLOSED record and a refusal for every other. -/
theorem releaseEmptiesClosedSlot : Obligations.ReleaseEmptiesClosedSlot := by
  unfold Obligations.ReleaseEmptiesClosedSlot
  refine ⟨fun x h s k l hs => ?_, fun x h s hd _ he hk => ⟨x, releaseClass, rfl, hd, seatCheck_release he hk⟩⟩
  intro s1 i
  have hex : exec i s = .next ((releaseLease k l s1).state.respond i x (releaseLease k l s1).status
      (releaseLease k l s1).payload) :=
    request_of_subject (f := fun k l s => releaseLease k l s) rfl hs
  rw [hex]
  have hl : s1.lease? k = some l := (resolve_eq_some.1 hs.2.1).2.2
  refine ⟨fun why hw => ⟨?_, recordCount_emptied _ hl⟩, fun hw => ?_⟩
  · simp only [releaseLease, hw, accept, emptySlot, nextGen_eq]
  · unfold releaseLease
    split
    · rename_i why hc; exact absurd hc (hw why)
    all_goals rfl

end Sys2Proof.Machine
end


section
/-! PROOFS. What RESTART leaves in the tables (R170). -/

namespace Sys2Proof.Machine

open State

/-! ## What a response leaves in the tables -/

section
variable (s : State) (i : Instr) (x : Seat) (st : Status) (p : List Byte)

@[simp] theorem respond_drive (c : Fin 24) : (s.respond i x st p).drive c = s.drive c := rfl

@[simp] theorem respond_attnLow : (s.respond i x st p).seatCtl.attnLow = s.attention := rfl

@[simp] theorem respond_bank (b : Fin 4) :
    (s.respond i x st p).bank b = { s.bank b with railEnable := (s.bank b).state.railEnabled } := by
  rw [respond, bank_driveOutputs]; rfl

@[simp] theorem respond_terminal (t : Fin 16) :
    (s.respond i x st p).terminal t = { s.terminal t with switchClosed := s.switchWanted t } := by
  rw [respond, terminal_driveOutputs]; rfl

end

/-! ## The tables after RESTART -/

section
variable (s : State)

@[simp] theorem slot_restarted (k : Fin 32) : s.restarted.slot k = (s.slot k).restarted k := by simp [restarted, slot]

@[simp] theorem seat_restarted (x : Seat) : s.restarted.seat x = (s.seat x).restarted := by simp [restarted, seat]

@[simp] theorem cell_restarted (c : Fin 24) : s.restarted.cell c = (s.cell c).restarted := by simp [restarted, cell]

@[simp] theorem drive_restarted (c : Fin 24) : s.restarted.drive c = { s.drive c with code := 0 } := by simp [restarted, drive]

@[simp] theorem bank_restarted (b : Fin 4) : s.restarted.bank b = (s.bank b).restarted := by simp [restarted, bank]

@[simp] theorem committed_restarted (b : Fin 4) : s.restarted.committed b = 0 := by simp [restarted, committed]

@[simp] theorem terminal_restarted (t : Fin 16) :
    s.restarted.terminal t = { s.terminal t with holder := none, idle := (s.terminal t).requested } := by
  simp [restarted, terminal]

theorem trips_restarted (n : Fin 4) : s.restarted.pool.trips[n] = { s.pool.trips[n] with fired := false } := by
  simp [restarted]

/-- No terminal has a holder, so its switch follows the idle mode (R45, R46). -/
theorem switchWanted_restarted (t : Fin 16) :
    s.restarted.switchWanted t = decide ((s.terminal t).requested = .discharge) := by
  simp only [switchWanted, terminal_restarted, Bool.and_true]
  rfl

/-- No event set is left, so ATTN# is released (R158, R163). -/
theorem attention_restarted : s.restarted.attention = false := by
  simp [attention, pendingEvents, SeatEntry.restarted, Seat.all]

/-- Every bank is in OFF or DISABLED, so every rail enable is low (R34). -/
theorem railEnabled_restarted (b : Bank) : b.restarted.state.railEnabled = false := by
  unfold Bank.restarted
  simp only
  split <;> rfl

end

/-- The keepalive after RESTART is the one of the period, unless it was DISARMED (R128). -/
theorem keepalive_restarted {e : SeatEntry} (h : e.keepalive ≠ .disarmed) :
    e.restarted.keepalive = if e.period.getD 0 = 0 then .disarmed else .armed (e.period.getD 0) 0 := by
  unfold SeatEntry.restarted
  simp only
  split
  · rename_i hk; exact absurd hk h
  · rfl
  · rfl

/-- Settles O17, clause by clause from what RESTART leaves in each table. -/
theorem restartResetsBlocks : Obligations.RestartResetsBlocks := by
  unfold Obligations.RestartResetsBlocks
  intro x s ha s1
  refine ⟨s1.restarted.respond (.restart x) x .ok [], request_of_accepted (body := fun s => accept s.restarted) rfl ha, ?_⟩
  refine ⟨?page, by simp, ?others, rfl, rfl, rfl, rfl, rfl, rfl, rfl, ?slots, ?seats, ?cells, ?banks, ?terminals, rfl, rfl, rfl, rfl, rfl,
    rfl, rfl, ?running, ?stopped, rfl, ?trips, rfl, rfl, ?attn, rfl, rfl, rfl, rfl, rfl⟩
  case page => rw [respond_page, if_pos rfl]; rfl
  case others =>
    intro y hy
    rw [respond_page, respond_busy, if_neg hy.symm, if_neg hy.symm]
    exact ⟨rfl, rfl⟩
  case slots =>
    intro k
    rw [respond_slot, slot_restarted, Slot.restarted, nextGen_eq]
    rfl
  case seats =>
    intro y e f
    have hf : f = e.restarted := by rw [← seat_restarted]; rfl
    rw [hf]
    refine ⟨rfl, rfl, rfl, rfl, rfl, rfl, rfl, rfl, rfl, rfl, rfl, fun hk => ?_, fun hk n hn => ?_⟩
    · simp only [SeatEntry.restarted, hk]
    · rw [keepalive_restarted hk, hn]
      rfl
  case cells =>
    intro c
    rw [respond_drive, respond_cell, drive_restarted, cell_restarted]
    exact ⟨rfl, rfl, rfl, rfl, rfl⟩
  case banks =>
    intro b
    rw [respond_bank, respond_committed, bank_restarted, committed_restarted, railEnabled_restarted]
    exact ⟨rfl, rfl, rfl, rfl, rfl, rfl, rfl, rfl, rfl, rfl⟩
  case terminals =>
    intro n
    rw [respond_terminal, switchWanted_restarted, terminal_restarted]
  case running => intro h; simp [restarted, MeasurementUnit.restarted, h]
  case stopped => intro h; simp [restarted, MeasurementUnit.restarted, h]
  case trips => exact trips_restarted s1
  case attn => rw [respond_attnLow, attention_restarted]

end Sys2Proof.Machine
end


section
/-! PROOFS. OPEN: its parameters, the record it makes, the order of its checks, and what an accepted one does (R4, R5, R48 to R59). -/

namespace Sys2Proof.Machine

open State

/-! ## The parameters (R48, R50) -/

/-- An optional number within a range: free when absent, else checked and kept (R172). -/
theorem optional?_inRange?_eq_some {present : Bool} {lo hi v : Nat} {o : Option Nat} :
    optional? present (inRange? lo hi v) = some o ↔
      (present = true → lo ≤ v ∧ v ≤ hi) ∧ o = if present = true then some v else none := by
  rw [optional?_eq_some]
  cases present
  · simp
  · simp [inRange?_eq_some, and_assoc]

/-- What R50 asks of the parameters of an OPEN. -/
def GoodOpen (p : OpenParams) : Prop :=
  p.terminal.toNat ≤ 15 ∧ (50 ≤ p.target.toNat ∧ p.target.toNat ≤ 600000) ∧
    (1000 ≤ p.compliance.toNat ∧ p.compliance.toNat ≤ 27000) ∧ p.waitLimit.toNat ≤ 600 ∧ p.flags.getLsbD 7 = false ∧
    (p.flags.getLsbD 2 = true → 1 ≤ p.durationCount.toNat ∧ p.durationCount.toNat ≤ 4095) ∧
    (p.flags.getLsbD 4 = true → p.rampTime.toNat ≤ 2000) ∧
    (p.flags.getLsbD 5 = true → 10 ≤ p.tolerance.toNat ∧ p.tolerance.toNat ≤ 60000) ∧
    (p.flags.getLsbD 6 = true → 1 ≤ p.groupTag.toNat ∧ p.groupTag.toNat ≤ 15)

/-- The unit flag of an OPEN. -/
def openUnit (p : OpenParams) : TimeUnit := if p.flags.getLsbD 3 then .minutes else .seconds

/-- The parameters of an OPEN on a terminal, as the device reads them (11.5). -/
def openAsRead (p : OpenParams) (terminal : Fin 16) : OpenRequest :=
  { terminal, target := p.target.toNat, compliance := p.compliance.toNat, regulate := p.flags.getLsbD 0
    policy := if p.flags.getLsbD 1 then .close else .suspend
    waitLimit := p.waitLimit.toNat
    duration := (if p.flags.getLsbD 2 = true then some p.durationCount.toNat else none).map fun n => (openUnit p, n)
    rampTime := if p.flags.getLsbD 4 = true then some p.rampTime.toNat else none
    tolerance := if p.flags.getLsbD 5 = true then some p.tolerance.toNat else none
    tag := if p.flags.getLsbD 6 = true then some p.groupTag.toNat else none }

/-- An OPEN passes R50 exactly when its parameters are good, and is then read as it stands. -/
theorem openRequest?_eq_some {p : OpenParams} {q : OpenRequest} :
    openRequest? p = some q ↔ GoodOpen p ∧ q.terminal.val = p.terminal.toNat ∧ q = openAsRead p q.terminal := by
  unfold openRequest? target?
  simp only [Option.bind_eq_bind, Option.bind_eq_some_iff, index?_eq_some, inRange?_eq_some, require_eq_some,
    optional?_inRange?_eq_some, bit, Option.pure_def, Option.some.injEq]
  constructor
  · rintro ⟨terminal, hterminal, _, ⟨htargetLow, htargetHigh, rfl⟩, _, ⟨hlimitLow, hlimitHigh, rfl⟩, _, hreserved, _, ⟨_, hwait, rfl⟩, _,
      ⟨hcount, rfl⟩, _, ⟨hramp, rfl⟩, _, ⟨htolerance, rfl⟩, _, ⟨htag, rfl⟩, rfl⟩
    exact ⟨⟨by omega, ⟨htargetLow, htargetHigh⟩, ⟨hlimitLow, hlimitHigh⟩, hwait, by simpa using hreserved, hcount,
      fun h => (hramp h).2, htolerance, htag⟩, hterminal, rfl⟩
  · rintro ⟨⟨_, ⟨htargetLow, htargetHigh⟩, ⟨hlimitLow, hlimitHigh⟩, hwait, hreserved, hcount, hramp, htolerance, htag⟩, hterminal, hq⟩
    exact ⟨q.terminal, hterminal, _, ⟨htargetLow, htargetHigh, rfl⟩, _, ⟨hlimitLow, hlimitHigh, rfl⟩, (), by simpa using hreserved, _,
      ⟨Nat.zero_le _, hwait, rfl⟩, _, ⟨hcount, rfl⟩, _, ⟨fun h => ⟨Nat.zero_le _, hramp h⟩, rfl⟩, _, ⟨htolerance, rfl⟩, _,
      ⟨htag, rfl⟩, hq.symm⟩

/-- Settles O22: the parameters are read field by field, and the record copies what is read. -/
theorem openParametersAreCheckedAndRecorded : Obligations.OpenParametersAreCheckedAndRecorded := by
  unfold Obligations.OpenParametersAreCheckedAndRecorded
  refine ⟨fun p => ?_, fun p q x hq => ?_⟩
  · rw [Option.isSome_iff_exists]
    constructor
    · rintro ⟨q, hq⟩
      obtain ⟨⟨hterminal, ⟨htargetLow, htargetHigh⟩, ⟨hlimitLow, hlimitHigh⟩, hrest⟩, -, -⟩ := openRequest?_eq_some.1 hq
      exact ⟨hterminal, htargetLow, htargetHigh, hlimitLow, hlimitHigh, hrest⟩
    · rintro ⟨hterminal, htargetLow, htargetHigh, hlimitLow, hlimitHigh, hrest⟩
      exact ⟨openAsRead p ⟨p.terminal.toNat, by omega⟩, openRequest?_eq_some.2
        ⟨⟨hterminal, ⟨htargetLow, htargetHigh⟩, ⟨hlimitLow, hlimitHigh⟩, hrest⟩, rfl, rfl⟩⟩
  · obtain ⟨-, ht, he⟩ := openRequest?_eq_some.1 hq
    generalize q.terminal = t at ht he
    subst he
    refine ⟨rfl, ht, rfl, rfl, rfl, rfl, rfl, rfl, rfl, rfl, rfl, ?duration, rfl, rfl, rfl, rfl, rfl, rfl, rfl, rfl, rfl, rfl⟩
    simp only [OpenRequest.lease, openAsRead, openUnit]
    split <;> split <;> rfl

/-! ## Slots and counts (R1, R4) -/

/-- The first slot that meets a condition is the lowest one. -/
theorem find?_allSlots {f : Fin 32 → Bool} {k : Fin 32} :
    allSlots.find? f = some k ↔ f k = true ∧ ∀ j, j < k → f j = false := by
  rw [allSlots, List.find?_eq_some_iff_getElem]
  simp only [List.getElem_finRange, List.length_finRange, Bool.not_eq_true']
  refine and_congr_right fun _ => ⟨?_, fun h => ⟨k.val, k.isLt, rfl, fun j hj => h _ hj⟩⟩
  rintro ⟨i, hi, rfl, h⟩ j hj
  exact h j.val hj

/-- The slot an OPEN takes is the lowest empty one (R4). -/
theorem emptySlot?_eq_some {s : State} {k : Fin 32} :
    s.emptySlot? = some k ↔ s.lease? k = none ∧ ∀ j, j < k → s.lease? j ≠ none := by
  simp [emptySlot?, find?_allSlots, Option.isSome_iff_ne_none]

theorem emptySlot?_eq_none {s : State} : s.emptySlot? = none ↔ ∀ k, s.lease? k ≠ none := by
  simp [emptySlot?, allSlots]

/-- A record count is a count of slots (R1). -/
theorem recordCount_eq (s : State) (x : Seat) :
    s.recordCount x = (List.finRange 32).countP fun k => (s.lease? k).any fun l => decide (l.owner = x) := by
  rw [recordCount, ← List.countP_eq_length_filter]
  rfl

/-- The rail check fails when no bank in use has a rail high enough (R52). -/
theorem railCheck_eq_false {s : State} {c : Nat} :
    s.railCheck c = false ↔ ∀ b, (s.bank b).state ≠ .disabled → (s.bank b).rail < c + 1000 := by
  simp [railCheck, allBanks, railServes]

theorem railCheck_of_bank {s : State} {c : Nat} {b : Fin 4} (hb : (s.bank b).state ≠ .disabled) (hr : c + 1000 ≤ (s.bank b).rail) :
    s.railCheck c = true := by
  rw [← Bool.not_eq_false, railCheck_eq_false]
  exact fun h => absurd (h b hb) (by omega)

/-! ## The checks of an OPEN, in order (R49) -/

theorem openBody_badParam {x : Seat} {p : OpenParams} {s : State} (hq : openRequest? p = none) :
    openBody x p s = refuseOpen s .badParam none := by
  simp [openBody, hq]

section
variable {x : Seat} {p : OpenParams} {s : State} {q : OpenRequest} {k : Fin 32}

theorem openBody_leaseQuota (hq : openRequest? p = some q) (hc : (s.seat x).leaseQuota ≤ s.recordCount x) :
    openBody x p s = refuseOpen s .quota none := by
  simp [openBody, hq, hc]

theorem openBody_tableFull (hq : openRequest? p = some q) (hc : s.recordCount x < (s.seat x).leaseQuota)
    (hk : s.emptySlot? = none) : openBody x p s = refuseOpen s .tableFull none := by
  simp [openBody, hq, Nat.not_le.2 hc, hk]

theorem openBody_railTooLow (hq : openRequest? p = some q) (hc : s.recordCount x < (s.seat x).leaseQuota)
    (hk : s.emptySlot? = some k) (hr : s.railCheck q.compliance = false) :
    openBody x p s = refuseOpen s .noResources (some .railTooLow) := by
  simp [openBody, hq, Nat.not_le.2 hc, hk, hr]

theorem openBody_cellQuota (hq : openRequest? p = some q) (hc : s.recordCount x < (s.seat x).leaseQuota)
    (hk : s.emptySlot? = some k) (hr : s.railCheck q.compliance = true) (hn : (s.seat x).cellQuota < admissionCells q.target) :
    openBody x p s = refuseOpen s .quota none := by
  simp [openBody, hq, Nat.not_le.2 hc, hk, hr, hn]

/-- The checks of R49 up to step 7, with the slot the record takes. -/
structure OpenChecked (x : Seat) (p : OpenParams) (q : OpenRequest) (s : State) (k : Fin 32) : Prop where
  params : openRequest? p = some q
  leases : s.recordCount x < (s.seat x).leaseQuota
  slot : s.emptySlot? = some k
  rail : s.railCheck q.compliance = true
  cells : admissionCells q.target ≤ (s.seat x).cellQuota

theorem openBody_admitted {b : Fin 4} (h : OpenChecked x p q s k) (ha : s.attempt (q.lease x) = .ok b) :
    openBody x p s = ⟨s.admitTo k (q.lease x) b, .ok, openPayload (some (s.handleAt k)) none⟩ := by
  simp [openBody, h.params, Nat.not_le.2 h.leases, h.slot, h.rail, Nat.not_lt.2 h.cells, ha]

theorem openBody_noWait {r : SubReason} (h : OpenChecked x p q s k) (ha : s.attempt (q.lease x) = .error r) (hw : q.waitLimit = 0) :
    openBody x p s = refuseOpen s .noResources (some r) := by
  simp [openBody, h.params, Nat.not_le.2 h.leases, h.slot, h.rail, Nat.not_lt.2 h.cells, ha, hw]

theorem openBody_waitFull {r : SubReason} (h : OpenChecked x p q s k) (ha : s.attempt (q.lease x) = .error r) (hw : 0 < q.waitLimit)
    (hl : 8 ≤ s.allocator.waitList.length) : openBody x p s = refuseOpen s .waitFull (some r) := by
  simp [openBody, h.params, Nat.not_le.2 h.leases, h.slot, h.rail, Nat.not_lt.2 h.cells, ha, hw.ne', Config.waitPlaces,
    Nat.not_lt.2 hl]

theorem openBody_queued {r : SubReason} (h : OpenChecked x p q s k) (ha : s.attempt (q.lease x) = .error r) (hw : 0 < q.waitLimit)
    (hl : s.allocator.waitList.length < 8) :
    openBody x p s = ⟨s.enterWaiting k (q.lease x), .queued, openPayload (some (s.handleAt k)) (some r)⟩ := by
  simp [openBody, h.params, Nat.not_le.2 h.leases, h.slot, h.rail, Nat.not_lt.2 h.cells, ha, hw.ne', Config.waitPlaces, hl]

end

/-- An accepted OPEN answers with its body's reply. -/
theorem exec_openLease {x : Seat} {p : OpenParams} {s : State} {r : Reply} (ha : Accepted (.openLease x p) s)
    (hb : openBody x p s.taken = r) : exec (.openLease x p) s = .next (r.state.respond (.openLease x p) x r.status r.payload) :=
  hb ▸ request_of_accepted rfl ha

/-- Settles O23: each check is one branch of the OPEN, reached when those before it pass. -/
theorem openIsRefusedInOrder : Obligations.OpenIsRefusedInOrder := by
  unfold Obligations.OpenIsRefusedInOrder
  refine ⟨recordCount_eq, fun x p s ha => ?_⟩
  intro s1 refused
  refine ⟨fun hq => exec_openLease ha (openBody_badParam hq), fun q hq => ?_⟩
  refine ⟨fun hc => exec_openLease ha (openBody_leaseQuota hq hc), fun hc => ?_⟩
  refine ⟨fun hk => exec_openLease ha (openBody_tableFull hq hc (emptySlot?_eq_none.2 hk)), fun k hk => ?_⟩
  obtain ⟨j, hj⟩ : ∃ j, s1.emptySlot? = some j :=
    Option.ne_none_iff_exists'.1 fun h => emptySlot?_eq_none.1 h k hk
  refine ⟨fun hr => exec_openLease ha (openBody_railTooLow hq hc hj (railCheck_eq_false.2 hr)), fun b hb hr => ?_⟩
  have hrail := railCheck_of_bank hb hr
  refine ⟨fun hn => exec_openLease ha (openBody_cellQuota hq hc hj hrail hn), fun hn r hr => ?_⟩
  have checked : OpenChecked x p q s1 j := ⟨hq, hc, hj, hrail, hn⟩
  exact ⟨fun hw => exec_openLease ha (openBody_noWait checked hr hw),
    fun hw hl => exec_openLease ha (openBody_waitFull checked hr hw hl)⟩

/-- Settles O24: past its checks an OPEN is admitted or put on the wait list, in the lowest empty slot. -/
theorem openAdmitsOrQueues : Obligations.OpenAdmitsOrQueues := by
  unfold Obligations.OpenAdmitsOrQueues
  intro x p q s k b s1 i l ha hq hc hk hlow hb hr hn
  have checked : OpenChecked x p q s1 k := ⟨hq, hc, emptySlot?_eq_some.2 ⟨hk, hlow⟩, railCheck_of_bank hb hr, hn⟩
  exact ⟨fun c hc => exec_openLease ha (openBody_admitted checked hc),
    fun r hr hw hl => exec_openLease ha (openBody_queued checked hr hw hl)⟩

end Sys2Proof.Machine
end


section
/-! PROOFS. The list walk (R20 to R22). -/

namespace Sys2Proof.Machine

open State

/-- Which records a walk stops at: those the seat may see, and of them the changed ones when the filter asks for it (R21). -/
theorem walkQualifies_iff {s : State} {x : Seat} {f : Filter} {k : Fin 32} :
    s.walkQualifies x f k = true ↔ ∃ l, s.lease? k = some l ∧ (x = .s ∨ l.owner = x) ∧ (f = .all ∨ l.changed = true) := by
  simp [walkQualifies, Option.any_eq_true]

/-- The walk stops at the first qualifying record at or above the cursor, reads it, and the cursor moves past it (R21). -/
theorem walkBody_found {x : Seat} {s : State} {k : Fin 32} {l : Lease} (hl : s.lease? k = some l)
    (hk : s.walkQualifies x (s.seat x).cursorFilter k = true) (hc : (s.seat x).cursor ≤ k.val)
    (hfirst : ∀ j, s.walkQualifies x (s.seat x).cursorFilter j = true → (s.seat x).cursor ≤ j.val → k ≤ j) :
    walkBody x s = (s.setSeat x { s.seat x with cursor := k.val + 1 }).readRecord x k l := by
  have hfind : allSlots.find? (fun j => (s.seat x).cursor ≤ j.val && s.walkQualifies x (s.seat x).cursorFilter j) = some k := by
    refine find?_allSlots.2 ⟨by simp [hc, hk], fun j hj => ?_⟩
    rw [← Bool.not_eq_true, Bool.and_eq_true, decide_eq_true_iff]
    exact fun h => absurd (hfirst j h.2 h.1) (Fin.not_le.2 hj)
  simp [walkBody, hfind, hl]

/-- With no qualifying record left the walk ends (R22). -/
theorem walkBody_end {x : Seat} {s : State}
    (h : ∀ j, s.walkQualifies x (s.seat x).cursorFilter j = true → j.val < (s.seat x).cursor) :
    walkBody x s = ⟨s.setSeat x { s.seat x with cursor := 32 }, .endOfList, []⟩ := by
  have hfind : allSlots.find? (fun j => (s.seat x).cursor ≤ j.val && s.walkQualifies x (s.seat x).cursorFilter j) = none := by
    rw [List.find?_eq_none]
    intro j _
    rw [Bool.and_eq_true, decide_eq_true_iff]
    exact fun hj => absurd (h j hj.2) (Nat.not_lt.2 hj.1)
  simp [walkBody, hfind]

/-- LIST NEXT and LIST FIRST walk from a state with the same records; LIST FIRST has set its cursor (R21). -/
theorem exec_walk {x : Seat} {s : State} {i : Instr} {s2 : State} (ha : Accepted i s)
    (h : (i = .listNext x ∧ s2 = s.taken) ∨
      ∃ b f, i = .listFirst x b ∧ readFilter b = some f ∧
        s2 = s.taken.setSeat x { s.taken.seat x with cursor := 0, cursorFilter := f }) :
    (∀ j, s2.lease? j = s.taken.lease? j) ∧ (∀ j, s2.handleAt j = s.taken.handleAt j) ∧
      ∀ r, walkBody x s2 = r → exec i s = .next (r.state.respond i x r.status r.payload) := by
  obtain ⟨rfl, rfl⟩ | ⟨b, f, rfl, hf, rfl⟩ := h
  · refine ⟨fun _ => rfl, fun _ => rfl, ?_⟩
    rintro r rfl
    exact request_of_accepted rfl ha
  · refine ⟨fun _ => rfl, fun _ => rfl, ?_⟩
    rintro r rfl
    have hbody : listFirstBody x b s.taken =
        walkBody x (s.taken.setSeat x { s.taken.seat x with cursor := 0, cursorFilter := f }) := by
      simp only [listFirstBody, hf]
    rw [← hbody]
    exact request_of_accepted rfl ha

/-- A filter byte other than 0 and 1 is no filter (R21). -/
theorem readFilter_eq_none {b : Byte} (h0 : b ≠ 0#8) (h1 : b ≠ 1#8) : readFilter (some b) = none := by
  simp [readFilter, choice?, h0, h1]

/-- Settles O38: LIST FIRST and LIST NEXT are the walk from their cursor, and the walk is a search of the slots from there. -/
theorem listWalkReturnsNextQualifyingRecord : Obligations.ListWalkReturnsNextQualifyingRecord := by
  unfold Obligations.ListWalkReturnsNextQualifyingRecord
  intro x s i s2 ha s1 first
  refine ⟨fun hi => ?_, fun b h0 h1 hi => ?_⟩
  · obtain ⟨hlease, hhandle, hexec⟩ := exec_walk (x := x) (s2 := s2) ha (by
      obtain h | ⟨hi, hs⟩ | ⟨hi, hs⟩ | ⟨hi, hs⟩ := hi
      · exact .inl h
      all_goals exact .inr ⟨_, _, hi, rfl, hs⟩)
    intro e qualifies
    have hq (j : Fin 32) : s2.walkQualifies x e.cursorFilter j = true ↔ qualifies j := by
      rw [walkQualifies_iff, hlease]
    refine ⟨fun k l hl hk hc hfirst => ?_, fun hend => ?_⟩
    · refine (hexec _ (walkBody_found ((hlease k).trans hl) ((hq k).2 hk) hc fun j hj => hfirst j ((hq j).1 hj))).trans ?_
      rw [← hhandle]
      rfl
    · exact hexec _ (walkBody_end fun j hj => hend j ((hq j).1 hj))
  · subst hi
    refine (request_of_accepted (body := listFirstBody x (some b)) rfl ha).trans ?_
    simp only [listFirstBody, readFilter_eq_none h0 h1]
    rfl

end Sys2Proof.Machine
end


section
/-! PROOFS. A lease that stops at once (R16, R24, R32, R35, R38, R78, R81, R82). -/

namespace Sys2Proof.Machine

open State

/-! ## The report of a stop (R35) -/

/-- A bank's counts after the report of a lease that leaves `old` for SUSPENDED or CLOSED (R35). -/
def Bank.counted (e : Bank) : LeaseState → Bank
  | .starting .wake => { e with claims := e.claims - 1 }
  | .starting .ramp | .verifying | .active _ _ | .rampdown _ => { e with driving := e.driving - 1 }
  | .waiting _ _ | .suspended _ | .closed _ => e

/-- The bank after the report: in ON with no demand left it leaves ON (R38). -/
def Bank.stopped (e : Bank) (old : LeaseState) : Bank :=
  if old.driving = true ∨ old = .starting .wake then
    if (e.counted old).driving + (e.counted old).claims = 0 ∧ e.state = .on then
      { e.counted old with state := if e.lingerTime = 0 then .off else .linger e.lingerTime 0 }
    else e.counted old
  else e

namespace State

variable (s : State)

theorem setBank_self (b : Fin 4) : s.setBank b (s.bank b) = s := by simp [setBank, bank]

/-- A report of a stop writes the one bank (R35, R38). -/
theorem reportStop_eq (old : LeaseState) (b : Fin 4) : s.reportStop old b = s.setBank b ((s.bank b).stopped old) := by
  have drop (e : Bank) (he : e.state = (s.bank b).state) (hl : e.lingerTime = (s.bank b).lingerTime) :
      (s.setBank b e).demandFallen b =
        s.setBank b (if e.driving + e.claims = 0 ∧ (s.bank b).state = .on then
          { e with state := if (s.bank b).lingerTime = 0 then .off else .linger (s.bank b).lingerTime 0 } else e) := by
    simp only [demandFallen, demand, restState, moveBank, bank_setBank, ↓reduceIte, he, hl]
    split <;> simp
  match old with
  | .starting .wake => exact drop _ rfl rfl
  | .starting .ramp => exact drop _ rfl rfl
  | .verifying => exact drop _ rfl rfl
  | .active _ _ => exact drop _ rfl rfl
  | .rampdown _ => exact drop _ rfl rfl
  | .waiting _ _ => exact (s.setBank_self b).symm
  | .suspended _ => exact (s.setBank_self b).symm
  | .closed _ => exact (s.setBank_self b).symm

/-- A stop into SUSPENDED, written out (R78, R81). -/
theorem suspendHolding_eq {k : Fin 32} {l : Lease} {a : Allocation} (hl : s.lease? k = some l) (ha : l.alloc = some a)
    (why : SuspendReason) :
    s.suspendHolding k why =
      (((s.putLease k { l with state := .suspended why, ramp := none, alloc := some a.withoutLeaving }).zeroCodes
        a.cellNumbers).freeCells a.leavingCells).setBank a.bank ((s.bank a.bank).stopped l.state) := by
  simp [suspendHolding, hl, ha, reportStop_eq]

/-- A stop into CLOSED, written out (R78, R82). -/
theorem closeHolding_eq {k : Fin 32} {l : Lease} {a : Allocation} (hl : s.lease? k = some l) (ha : l.alloc = some a)
    (why : EndReason) :
    s.closeHolding k why =
      ((((s.putLease k { l with state := .closed why, ramp := none, alloc := none }).freeCells a.cellNumbers).setCommitted a.bank
        (s.committed a.bank - a.charge)).releaseTerminal l.terminal).setBank a.bank ((s.bank a.bank).stopped l.state) := by
  simp [closeHolding, hl, ha, reportStop_eq, releaseTerminal]

/-- The leaving cells are listed cells. -/
theorem leavingCells_subset (a : Allocation) : ∀ c ∈ a.leavingCells, c ∈ a.cellNumbers := by
  intro c hc
  simp only [Allocation.leavingCells, Allocation.cellNumbers, List.mem_map, List.mem_filter] at hc ⊢
  obtain ⟨e, ⟨he, -⟩, rfl⟩ := hc
  exact ⟨e, he, rfl⟩

end State

/-- What both stops leave of the state: of the lease table the record alone is written, of the cells the codes of the listed ones, of the
banks the one of the lease. -/
def StopFrame (s : State) (k : Fin 32) (a : Allocation) (after : Bank) (t : State) : Prop :=
  (∀ j, j ≠ k → t.slot j = s.slot j) ∧ (t.slot k).gen = (s.slot k).gen ∧
    (∀ c, t.drive c = if c ∈ a.cellNumbers then { s.drive c with code := 0 } else s.drive c) ∧
    (∀ d, t.bank d = if d = a.bank then after else s.bank d) ∧
    t.engine.bankOnNotices = s.engine.bankOnNotices ∧ t.engine.lapseNotices = s.engine.lapseNotices ∧
    t.engine.results = s.engine.results ∧ t.allocator.waitExpiryNotices = s.allocator.waitExpiryNotices ∧
    t.allocator.waitList = s.allocator.waitList ∧ t.seatCtl = s.seatCtl ∧ t.meas = s.meas ∧ t.pool = s.pool ∧
    t.selfTest = s.selfTest ∧ t.port = s.port ∧ t.straps = s.straps ∧ t.pending = s.pending

section
variable {s : State} {k : Fin 32} {l : Lease} {a : Allocation} (hl : s.lease? k = some l) (ha : l.alloc = some a)
include hl ha

theorem stopFrame_suspendHolding (why : SuspendReason) :
    StopFrame s k a ((s.bank a.bank).stopped l.state) (s.suspendHolding k why) := by
  rw [suspendHolding_eq s hl ha]
  refine ⟨fun j hj => by simp [slot_putLease_of_ne, hj], by simp, fun c => ?_, fun d => by simp [eq_comm], by simp⟩
  by_cases hc : c ∈ a.leavingCells
  · simp [hc, leavingCells_subset a c hc]
  · simp [hc]

theorem stopFrame_closeHolding (why : EndReason) :
    StopFrame s k a ((s.bank a.bank).stopped l.state) (s.closeHolding k why) := by
  rw [closeHolding_eq s hl ha]
  exact ⟨fun j hj => by simp [releaseTerminal, slot_putLease_of_ne, hj], by simp [releaseTerminal], fun c => by simp [releaseTerminal],
    fun d => by simp [releaseTerminal, eq_comm], by simp [releaseTerminal]⟩

end

/-- Settles O32: both stops are writes to the record, to the listed cells and to the bank of the lease; a closing also gives back the
charge and the terminal. -/
theorem stopAtOnceGivesBack : Obligations.StopAtOnceGivesBack := by
  unfold Obligations.StopAtOnceGivesBack
  refine ⟨fun a => ⟨rfl, rfl, rfl⟩, fun s k l a hl ha => ?_⟩
  intro e freed counted rest after common
  have hafter : (s.bank a.bank).stopped l.state = after := rfl
  change (∀ why, StopFrame s k a after (s.suspendHolding k why) ∧ _) ∧ ∀ why, StopFrame s k a after (s.closeHolding k why) ∧ _
  refine ⟨fun why => ⟨?frame, ?_⟩, fun why => ⟨?frame', ?_⟩⟩
  case frame => rw [← hafter]; exact stopFrame_suspendHolding hl ha why
  case frame' => rw [← hafter]; exact stopFrame_closeHolding hl ha why
  · rw [suspendHolding_eq s hl ha]
    exact ⟨by simp, fun c => by simp [freed], fun d => by simp, fun m => by simp⟩
  · rw [closeHolding_eq s hl ha]
    refine ⟨by simp [releaseTerminal], fun c => by simp [releaseTerminal, freed], fun d => ?_, fun m => ?_⟩
    · by_cases hd : d = a.bank
      · simp [releaseTerminal, hd]
      · simp [releaseTerminal, hd, Ne.symm hd]
    · by_cases hm : m = l.terminal
      · simp [releaseTerminal, hm]
      · simp [releaseTerminal, hm, Ne.symm hm]

end Sys2Proof.Machine
end


section
/-! PROOFS. The bytes of responses, and what STATUS and CELL QUERY answer (R27, R169, R173). -/

namespace Sys2Proof.Machine

open State

/-! ## Bytes and fields -/

theorem toNat_byte (n : Nat) : (byte n).toNat = n % 256 := by simp [byte]

/-- A number below 256 stands in its byte as it is. -/
theorem toNat_byte_of_lt {n : Nat} (h : n < 256) : (byte n).toNat = n := by rw [toNat_byte, Nat.mod_eq_of_lt h]

theorem field16_eq (n : Nat) : field16 n = [byte n, byte (n / 256)] := by
  simp only [field16, bytes16, List.cons.injEq, and_true, ← BitVec.toNat_inj, toNat_byte, BitVec.extractLsb'_toNat, BitVec.toNat_ofNat]
  omega

theorem field24_eq (n : Nat) : field24 n = [byte n, byte (n / 256), byte (n / 65536)] := by
  simp only [field24, bytes24, List.cons.injEq, and_true, ← BitVec.toNat_inj, toNat_byte, BitVec.extractLsb'_toNat, BitVec.toNat_ofNat]
  omega

/-- The two bytes of a field, low byte first (0.6). -/
theorem word_bytes (n : Nat) : (byte n).toNat + 256 * (byte (n / 256)).toNat = n % 2 ^ 16 := by
  simp only [toNat_byte]; omega

/-- The three bytes of a field, low byte first (0.6). -/
theorem long_bytes (n : Nat) :
    (byte n).toNat + 256 * (byte (n / 256)).toNat + 65536 * (byte (n / 65536)).toNat = n % 2 ^ 24 := by
  simp only [toNat_byte]; omega

/-! ## Marks -/

theorem getD_map_finRange {α : Type} {n : Nat} (f : Fin n → α) (i : Fin n) (d : α) : ((List.finRange n).map f).getD i.val d = f i := by
  simp

/-- The number whose bits are a list of marks, lowest first. -/
def marksOf : List Bool → Nat
  | [] => 0
  | b :: bs => b.toNat + 2 * marksOf bs

/-- Each mark stands at its bit. -/
theorem marksOf_bit (bs : List Bool) (i : Nat) : marksOf bs / 2 ^ i % 2 = if bs.getD i false = true then 1 else 0 := by
  induction bs generalizing i with
  | nil => simp [marksOf]
  | cons b bs ih =>
    cases i with
    | zero => cases b <;> simp [marksOf]
    | succ i =>
      have hb : b.toNat < 2 := b.toNat_lt
      rw [List.getD_cons_succ, ← ih, pow_succ', ← Nat.div_div_eq_div_mul]
      congr 2
      simp only [marksOf]; omega

theorem marksOf_lt (bs : List Bool) : marksOf bs < 2 ^ bs.length := by
  induction bs with
  | nil => simp [marksOf]
  | cons b bs ih =>
    have hb : b.toNat < 2 := b.toNat_lt
    simp only [marksOf, List.length_cons, pow_succ]; omega

theorem markAt_eq (i : Nat) (b : Bool) : markAt i b = 2 ^ i * b.toNat := by cases b <;> simp [markAt]

/-! ## STATUS (R169) -/

/-- The free cell count is a count of cells (R23). -/
theorem freeCount_eq (s : State) :
    s.freeCount = (List.finRange 24).countP fun c =>
      (s.cell c).state = .free ∧ (s.bank ⟨c.val / 6, by omega⟩).state ≠ .disabled := by
  rw [freeCount, ← List.countP_eq_length_filter, allCells]
  congr 1
  funext c
  rw [Bool.decide_and]
  simp [bankOf, bne, beq_eq_decide]

/-- The table occupancy is a count of slots (R1). -/
theorem occupancy_eq (s : State) : s.occupancy = (List.finRange 32).countP fun k => (s.lease? k).isSome := by
  rw [occupancy, ← List.countP_eq_length_filter]
  rfl

theorem freeCount_lt (s : State) : s.freeCount < 256 :=
  Nat.lt_of_le_of_lt (List.length_filter_le ..) (by simp [allCells])

theorem occupancy_lt (s : State) : s.occupancy < 256 :=
  Nat.lt_of_le_of_lt (List.length_filter_le ..) (by simp [allSlots])

/-- The switch field is the marks of the closed switches, terminal by terminal. -/
theorem switchMarks_eq (s : State) :
    (allTerminals.map fun t => markAt t.val (s.terminal t).switchClosed).foldl (· + ·) 0 =
      marksOf (allTerminals.map fun t => (s.terminal t).switchClosed) := by
  have hall : allTerminals = [0, 1, 2, 3, 4, 5, 6, 7, 8, 9, 10, 11, 12, 13, 14, 15] := by decide
  simp only [hall, List.map_cons, List.map_nil, List.foldl_cons, List.foldl_nil, marksOf, markAt_eq]
  simp only [Fin.coe_ofNat_eq_mod, Nat.reduceMod, Nat.reducePow]
  omega

/-- The trip byte is the armed marks in its low four bits and the fired marks above them. -/
theorem tripMarks_eq (s : State) :
    (allTrips.map fun n => markAt n.val s.pool.trips[n].armed + markAt (4 + n.val) s.pool.trips[n].fired).foldl (· + ·) 0 =
      marksOf ((allTrips.map fun n => s.pool.trips[n].armed) ++ allTrips.map fun n => s.pool.trips[n].fired) := by
  have hall : allTrips = [0, 1, 2, 3] := by decide
  simp only [hall, List.map_cons, List.map_nil, List.foldl_cons, List.foldl_nil, marksOf, markAt_eq, List.cons_append, List.nil_append]
  simp only [Fin.coe_ofNat_eq_mod, Nat.reduceMod, Nat.reduceAdd, Nat.reducePow]
  omega

/-- The payload of STATUS, byte by byte. -/
theorem statusPayload_eq (s : State) :
    s.statusPayload =
      [byte s.pool.state.code] ++
      (allBanks.flatMap fun b => [byte (s.bank b).state.code, byte (s.committed b), byte (s.committed b / 256)]) ++
      [byte s.freeCount, byte s.occupancy, byte s.allocator.waitList.length] ++
      (allTerminals.map fun t => handleField (s.terminal t).holder) ++
      [byte (marksOf (allTerminals.map fun t => (s.terminal t).switchClosed)),
        byte (marksOf (allTerminals.map fun t => (s.terminal t).switchClosed) / 256),
        if s.meas.running then 1#8 else 0#8,
        byte (marksOf ((allTrips.map fun n => s.pool.trips[n].armed) ++ allTrips.map fun n => s.pool.trips[n].fired))] := by
  rw [statusPayload, switchMarks_eq, tripMarks_eq]
  simp only [field16_eq, List.append_assoc, List.cons_append, List.nil_append]

theorem toNat_poolCode (st : PoolState) :
    (byte st.code).toNat = match st with | .run => 0 | .hold .request => 1 | .hold (.trip n) => 2 + n.val := by
  rcases st with _ | _ | n
  · rfl
  · rfl
  · exact toNat_byte_of_lt (by simp only [PoolState.code]; omega)

theorem toNat_bankCode (st : BankState) :
    (byte st.code).toNat =
      match st with
      | .disabled => 0 | .off => 1 | .waking _ => 2 | .on => 3 | .linger _ _ => 4 | .testing _ => 5 | .faulted => 6 := by
  cases st <;> rfl

/-- The bytes of STATUS, each as the tables stand. -/
theorem statusPayload_bytes (s : State) :
    let p := s.statusPayload
    let at' (j : Nat) := (p.getD j 0#8).toNat
    p.length = 36 ∧ at' 0 = (byte s.pool.state.code).toNat ∧
    (∀ b : Fin 4, at' (1 + 3 * b.val) = (byte (s.bank b).state.code).toNat ∧
      at' (2 + 3 * b.val) + 256 * at' (3 + 3 * b.val) = s.committed b % 2 ^ 16) ∧
    at' 13 = s.freeCount ∧ at' 14 = s.occupancy ∧ at' 15 = s.allocator.waitList.length % 256 ∧
    (∀ m : Fin 16, p.getD (16 + m.val) 0#8 = handleField (s.terminal m).holder) ∧
    at' 32 + 256 * at' 33 = marksOf (allTerminals.map fun t => (s.terminal t).switchClosed) ∧
    at' 34 = (if s.meas.running then 1 else 0) ∧
    at' 35 = marksOf ((allTrips.map fun n => s.pool.trips[n].armed) ++ allTrips.map fun n => s.pool.trips[n].fired) := by
  rw [statusPayload_eq]
  intro p at'
  refine ⟨rfl, rfl, fun b => ?_, toNat_byte_of_lt (freeCount_lt s), toNat_byte_of_lt (occupancy_lt s), toNat_byte _, fun m => ?_,
    ?_, ?_, ?_⟩
  · fin_cases b <;> exact ⟨rfl, word_bytes _⟩
  · fin_cases m <;> rfl
  · refine (word_bytes _).trans (Nat.mod_eq_of_lt ((marksOf_lt _).trans_eq ?_))
    rw [List.length_map, allTerminals, List.length_finRange]
  · change (if s.meas.running then 1#8 else 0#8 : Byte).toNat = _
    split <;> rfl
  · refine toNat_byte_of_lt ((marksOf_lt _).trans_eq ?_)
    rw [List.length_append, List.length_map, List.length_map, allTrips, List.length_finRange]
    rfl

/-! ## CELL QUERY (R27) -/

/-- The cell of a bank with an offset (0.6). -/
def cellAt (b : Fin 4) (j : Fin 6) : Fin 24 := ⟨6 * b.val + j.val, by omega⟩

/-- The six cells of a bank are those of its offsets (0.6). -/
theorem cellsOf_eq (b : Fin 4) : cellsOf b = (List.finRange 6).map (cellAt b) := by
  revert b; decide

/-- The seven bytes of one cell (R27). -/
def State.cellBytes (s : State) (c : Fin 24) : List Byte :=
  [byte (s.cell c).state.code, handleField (s.cell c).state.holder?, byte (s.cell c).lastResult.code, byte (s.cell c).state.causeCode,
    byte (s.drive c).range.code, byte (s.drive c).code, byte ((s.drive c).code / 256)]

theorem cellPayload_eq (s : State) (b : Fin 4) :
    s.cellPayload b = (List.finRange 6).flatMap fun j => s.cellBytes (cellAt b j) := by
  simp only [cellPayload, cellsOf_eq, List.flatMap_map, field16_eq, cellBytes, List.cons_append, List.nil_append]

/-- The bytes of the cell with the offset `j` in its bank stand at `7 j`. -/
theorem cellPayload_getD (s : State) (b : Fin 4) (j : Fin 6) (r : Fin 7) :
    (s.cellPayload b).getD (7 * j.val + r.val) 0#8 = (s.cellBytes (cellAt b j)).getD r.val 0#8 := by
  rw [cellPayload_eq]
  fin_cases j <;> fin_cases r <;> rfl

/-- A cell state on the wire: its code, its holder and its out-of-service cause (11.5). -/
theorem cellState_bytes (st : CellState) :
    (byte st.code).toNat = (match st with | .free => 0 | .allotted _ => 1 | .testing => 2 | .outOfService _ => 3) ∧
      handleField st.holder? = (match st with | .allotted h => h | _ => 0xFF#8) ∧
      (byte st.causeCode).toNat = (match st with | .outOfService .test => 1 | .outOfService .supervisor => 2 | _ => 0) := by
  rcases st with _ | _ | _ | _ | _ <;> exact ⟨rfl, rfl, rfl⟩

theorem toNat_resultCode (r : TestResult) :
    (byte r.code).toNat =
      match r with | .untested => 0 | .pass => 1 | .failGain => 2 | .failOffset => 3 | .failLeak => 4 | .incomplete => 5 := by
  cases r <;> rfl

theorem toNat_rangeCode (r : Range) : (byte r.code).toNat = match r with | .low => 0 | .mid => 1 | .high => 2 := by
  cases r <;> rfl

/-- Settles O45: both requests answer their payload on the state they are taken in, and each byte of a payload is one entry of a table. -/
theorem statusAndCellQueryChangeNothing : Obligations.StatusAndCellQueryChangeNothing := by
  unfold Obligations.StatusAndCellQueryChangeNothing
  refine ⟨fun x s ha => request_of_accepted (body := fun s => ⟨s, .ok, s.statusPayload⟩) rfl ha, fun x bank s ha => ?query,
    fun s => ?status, fun s b => ?cells⟩
  case query =>
    have hexec {r : Reply} (hb : cellQueryBody bank s.taken = r) :
        exec (.cellQuery x bank) s = .next (r.state.respond (.cellQuery x bank) x r.status r.payload) :=
      hb ▸ request_of_accepted rfl ha
    refine ⟨fun h => hexec (r := refuse s.taken .badParam) ?_, fun b hb => hexec (r := ⟨s.taken, .ok, s.taken.cellPayload b⟩) ?_⟩
    · simp only [cellQueryBody, index?_eq_none.2 h]
    · simp only [cellQueryBody, index?_eq_some.2 hb.symm]
  case status =>
    obtain ⟨hlen, hpool, hbanks, hfree, hocc, hwait, hholders, hswitch, hrun, htrips⟩ := statusPayload_bytes s
    refine ⟨hlen, hpool.trans (toNat_poolCode _), fun b => ?_, hfree.trans (freeCount_eq s), hocc.trans (occupancy_eq s),
      fun h => hwait.trans (Nat.mod_eq_of_lt h), fun m => ⟨hholders m, ?_⟩, hrun, fun n => ?_⟩
    · obtain ⟨hstate, hcharge⟩ := hbanks b
      exact ⟨hstate.trans (toNat_bankCode _), fun h => hcharge.trans (Nat.mod_eq_of_lt h)⟩
    · rw [hswitch, marksOf_bit, allTerminals, getD_map_finRange]
    · rw [htrips, marksOf_bit, marksOf_bit, allTrips, List.getD_append _ _ _ _ (by simp), List.getD_append_right _ _ _ _ (by simp)]
      simp only [List.length_map, List.length_finRange, Nat.add_sub_cancel_left, getD_map_finRange, and_self]
  case cells =>
    intro p at'
    refine ⟨by simp only [p, cellPayload_eq, List.length_flatMap]; rfl, fun j c hc => ?_⟩
    obtain rfl : c = cellAt b j := Fin.ext hc
    have hbyte := cellPayload_getD s b j
    obtain ⟨hcode, hholder, hcause⟩ := cellState_bytes (s.cell (cellAt b j)).state
    refine ⟨(congrArg BitVec.toNat (hbyte 0)).trans hcode, (hbyte 1).trans hholder,
      (congrArg BitVec.toNat (hbyte 2)).trans (toNat_resultCode _), (congrArg BitVec.toNat (hbyte 3)).trans hcause,
      (congrArg BitVec.toNat (hbyte 4)).trans (toNat_rangeCode _), fun h => ?_⟩
    have h5 := congrArg BitVec.toNat (hbyte 5)
    have h6 := congrArg BitVec.toNat (hbyte 6)
    exact (congrArg₂ (· + 256 * ·) h5 h6).trans ((word_bytes _).trans (Nat.mod_eq_of_lt h))

end Sys2Proof.Machine
end


section
/-! PROOFS. QUERY and the bytes of the lease record (R18, R19, 11.5). -/

namespace Sys2Proof.Machine

open State

/-! ## Reading a payload -/

/-- A byte of a payload as a number. -/
def byteAt (r : List Byte) (j : Nat) : Nat := (r.getD j 0#8).toNat

/-- A two-byte field of a payload. -/
def wordAt (r : List Byte) (j : Nat) : Nat := byteAt r j + 256 * byteAt r (j + 1)

/-- A three-byte field of a payload. -/
def longAt (r : List Byte) (j : Nat) : Nat := byteAt r j + 256 * byteAt r (j + 1) + 65536 * byteAt r (j + 2)

theorem byteAt_drop (r : List Byte) (j i : Nat) : byteAt r (j + i) = byteAt (r.drop j) i := by
  simp [byteAt, List.getD_eq_getElem?_getD]

/-- A two-byte field reads as its number cut to 16 bits. -/
theorem wordAt_of_drop {r rest : List Byte} {j n : Nat} (h : r.drop j = field16 n ++ rest) : wordAt r j = n % 2 ^ 16 := by
  have hbyte (i : Nat) : byteAt r (j + i) = byteAt ([byte n, byte (n / 256)] ++ rest) i := by rw [byteAt_drop, h, field16_eq]
  exact (congrArg₂ (· + 256 * ·) (hbyte 0) (hbyte 1)).trans (word_bytes n)

/-- A three-byte field reads as its number cut to 24 bits. -/
theorem longAt_of_drop {r rest : List Byte} {j n : Nat} (h : r.drop j = field24 n ++ rest) : longAt r j = n % 2 ^ 24 := by
  have hbyte (i : Nat) : byteAt r (j + i) = byteAt ([byte n, byte (n / 256), byte (n / 65536)] ++ rest) i := by
    rw [byteAt_drop, h, field24_eq]
  exact (congrArg₂ (· + 65536 * ·) (congrArg₂ (· + 256 * ·) (hbyte 0) (hbyte 1)) (hbyte 2)).trans (long_bytes n)

/-! ## The record and its marks -/

/-- A byte of the cell list: the cell with its leaving mark, 0xFF for an unused entry, 0 with no cell list (R173, log 27). -/
def cellByte (a : Option Allocation) (j : Nat) : Byte :=
  match a with
  | none => 0#8
  | some a => ((a.cells[j]?).map fun e => byte (e.cell.val + markAt 7 e.leaving)).getD 0xFF#8

theorem cellListField_eq (a : Option Allocation) :
    cellListField a = [cellByte a 0, cellByte a 1, cellByte a 2, cellByte a 3, cellByte a 4, cellByte a 5] := by
  match a with
  | none => rfl
  | some ⟨_, [], _, _, _⟩ => rfl
  | some ⟨_, [_], _, _, _⟩ => rfl
  | some ⟨_, [_, _], _, _, _⟩ => rfl
  | some ⟨_, [_, _, _], _, _, _⟩ => rfl
  | some ⟨_, [_, _, _, _], _, _, _⟩ => rfl
  | some ⟨_, [_, _, _, _, _], _, _, _⟩ => rfl
  | some ⟨_, _ :: _ :: _ :: _ :: _ :: _ :: _, _, _, _⟩ => rfl

/-- The presence marks of byte 3. -/
def Lease.presence (l : Lease) : List Bool :=
  [l.range.isSome, l.alloc.isSome, l.duration.isSome, l.state.wait?.isSome, l.ramp.isSome, l.state.strike?.isSome,
    l.lastMeasurement.isSome, l.tolerance.isSome]

/-- The marks of byte 4. -/
def Lease.marks (l : Lease) : List Bool :=
  [l.regulate, l.policy == .close, l.duration.any (·.unit == .minutes), l.rampTime.isSome, l.state.strike?.getD false, l.railLost,
    l.changed]

/-- The record as the sequence of its fields, with its marks gathered and its cell list written out. -/
theorem record_eq (l : Lease) (h : Handle) :
    l.record h = List.flatten
      [[h, byte (l.terminal.val + 16 * l.owner.idx.val), byte l.state.code, byte (marksOf l.presence), byte (marksOf l.marks)],
        field24 l.target, field16 l.compliance, field16 (l.rampTime.getD 0), field16 (l.tolerance.getD 0), field16 l.waitLimit,
        [byte (l.tag.getD 0 + 16 * l.state.reason)],
        [byte ((l.range.map (·.code)).getD 0 + 16 * (l.alloc.map (·.bank.val)).getD 0)],
        [cellByte l.alloc 0, cellByte l.alloc 1, cellByte l.alloc 2, cellByte l.alloc 3, cellByte l.alloc 4, cellByte l.alloc 5],
        field16 ((l.alloc.map (·.baseCode)).getD 0), [BitVec.ofInt 8 ((l.alloc.map (·.trim)).getD 0)],
        field16 ((l.alloc.map (·.charge)).getD 0), field16 ((l.duration.map (·.count)).getD 0),
        field16 ((l.duration.map (·.reported)).getD 0), field16 (l.state.wait?.getD 0),
        field24 ((l.ramp.map (·.fromLevel)).getD 0), field16 ((l.ramp.map (·.timeRemaining)).getD 0), [l.rampCount],
        field24 ((l.lastMeasurement.map (·.current)).getD 0), field16 ((l.lastMeasurement.map (·.voltage)).getD 0)] := by
  have hpresence : markAt 0 l.range.isSome + markAt 1 l.alloc.isSome + markAt 2 l.duration.isSome + markAt 3 l.state.wait?.isSome +
      markAt 4 l.ramp.isSome + markAt 5 l.state.strike?.isSome + markAt 6 l.lastMeasurement.isSome + markAt 7 l.tolerance.isSome =
      marksOf l.presence := by
    simp only [markAt_eq, Lease.presence, marksOf]; omega
  have hmarks : markAt 0 l.regulate + markAt 1 (l.policy == .close) + markAt 2 (l.duration.any (·.unit == .minutes)) +
      markAt 3 l.rampTime.isSome + markAt 4 (l.state.strike?.getD false) + markAt 5 l.railLost + markAt 6 l.changed =
      marksOf l.marks := by
    simp only [markAt_eq, Lease.marks, marksOf]; omega
  unfold Lease.record
  simp only [hpresence, hmarks, cellListField_eq, List.flatten_cons, List.flatten_nil, List.append_assoc, List.append_nil]

/-- A mark of a byte reads at its bit. -/
theorem byte_mark {bs : List Bool} (hlen : bs.length ≤ 8) (i : Nat) :
    (byte (marksOf bs)).toNat / 2 ^ i % 2 = 1 ↔ bs.getD i false = true := by
  have hlt : marksOf bs < 256 := (marksOf_lt bs).trans_le (Nat.pow_le_pow_right (by omega) hlen)
  rw [toNat_byte_of_lt hlt, marksOf_bit]
  cases bs.getD i false <;> simp

theorem toNat_leaseCode (st : LeaseState) :
    (byte st.code).toNat =
      match st with
      | .waiting _ _ => 0 | .starting .wake => 1 | .starting .ramp => 1 + 16 | .verifying => 2 | .active _ _ => 3
      | .rampdown (.suspended _) => 4 | .rampdown (.closed _) => 4 + 16 | .suspended _ => 5 | .closed _ => 6 := by
  rcases st with _ | (_ | _) | _ | _ | (_ | _) | _ | _ <;> rfl

theorem isSome_wait? {st : LeaseState} : st.wait?.isSome = true ↔ ∃ n u, st = .waiting n u := by
  cases st <;> simp [LeaseState.wait?]

theorem isSome_strike? {st : LeaseState} : st.strike?.isSome = true ↔ ∃ b u, st = .active b u := by
  cases st <;> simp [LeaseState.strike?]

theorem strike?_eq_true {st : LeaseState} : st.strike?.getD false = true ↔ ∃ u, st = .active true u := by
  cases st <;> simp [LeaseState.strike?]

/-- The marks of byte 3, each at its bit (11.5). -/
theorem presence_marks (l : Lease) :
    let marked (i : Nat) := (byte (marksOf l.presence)).toNat / 2 ^ i % 2 = 1
    (marked 0 ↔ l.range ≠ none) ∧ (marked 1 ↔ l.alloc ≠ none) ∧ (marked 2 ↔ l.duration ≠ none) ∧
      (marked 3 ↔ ∃ n u, l.state = .waiting n u) ∧ (marked 4 ↔ l.ramp ≠ none) ∧ (marked 5 ↔ ∃ st u, l.state = .active st u) ∧
      (marked 6 ↔ l.lastMeasurement ≠ none) ∧ (marked 7 ↔ l.tolerance ≠ none) := by
  intro marked
  have hmark (i : Nat) : marked i ↔ l.presence.getD i false = true := byte_mark (bs := l.presence) (Nat.le_refl 8) i
  simp only [hmark, Lease.presence, ← Option.isSome_iff_ne_none, ← isSome_wait?, ← isSome_strike?]
  exact ⟨.rfl, .rfl, .rfl, .rfl, .rfl, .rfl, .rfl, .rfl⟩

/-- The marks of byte 4, each at its bit (11.5); bit 7 reads 0. -/
theorem flag_marks (l : Lease) :
    let marked (i : Nat) := (byte (marksOf l.marks)).toNat / 2 ^ i % 2 = 1
    (marked 0 ↔ l.regulate = true) ∧ (marked 1 ↔ l.policy = .close) ∧
      (marked 2 ↔ ∃ d, l.duration = some d ∧ d.unit = .minutes) ∧ (marked 3 ↔ l.rampTime ≠ none) ∧
      (marked 4 ↔ ∃ u, l.state = .active true u) ∧ (marked 5 ↔ l.railLost = true) ∧ (marked 6 ↔ l.changed = true) ∧ ¬marked 7 := by
  intro marked
  have hmark (i : Nat) : marked i ↔ l.marks.getD i false = true := byte_mark (bs := l.marks) (Nat.le_succ 7) i
  have hunit : (∃ d, l.duration = some d ∧ d.unit = .minutes) ↔ l.duration.any (·.unit == .minutes) = true := by
    simp [Option.any_eq_true]
  have hpolicy : l.policy = .close ↔ (l.policy == .close) = true := by simp
  simp only [hmark, Lease.marks, ← Option.isSome_iff_ne_none, ← strike?_eq_true, hunit, hpolicy]
  exact ⟨.rfl, .rfl, .rfl, .rfl, .rfl, .rfl, .rfl, Bool.false_ne_true⟩

/-- Byte 17: the range and the bank (11.5). -/
theorem rangeBank_byte (r : Option Range) (a : Option Allocation) :
    let v := (byte ((r.map (·.code)).getD 0 + 16 * (a.map (·.bank.val)).getD 0)).toNat
    v % 16 = (match r with | some .low => 0 | some .mid => 1 | some .high => 2 | none => 0) ∧ v / 16 = (a.map (·.bank.val)).getD 0 := by
  have hr : (r.map (·.code)).getD 0 = match r with | some .low => 0 | some .mid => 1 | some .high => 2 | none => 0 := by
    rcases r with _ | (_ | _ | _) <;> rfl
  have hb : (a.map (·.bank.val)).getD 0 < 4 := by
    cases a with
    | none => decide
    | some a => exact a.bank.isLt
  intro v
  have hlt : (r.map (·.code)).getD 0 < 3 := by rw [hr]; rcases r with _ | (_ | _ | _) <;> decide
  have hv : v = (r.map (·.code)).getD 0 + 16 * (a.map (·.bank.val)).getD 0 := toNat_byte_of_lt (by omega)
  rw [hv, ← hr]
  omega

/-- A byte of the cell list of an allocation (11.5). -/
theorem toNat_cellByte (a : Allocation) (j : Nat) :
    (cellByte (some a) j).toNat =
      match a.cells[j]? with
      | some e => e.cell.val + (if e.leaving then 128 else 0)
      | none => 255 := by
  simp only [cellByte]
  cases a.cells[j]? with
  | none => rfl
  | some e =>
    refine toNat_byte_of_lt ?_
    simp only [markAt]
    split <;> omega

/-! ## The fields of the record (11.5) -/

section
variable (l : Lease) (h : Handle)

theorem record_length : (l.record h).length = 46 := by rw [record_eq]; rfl

/-- Bytes 0 to 4: the handle, the terminal with the owner, the state, and the marks. -/
theorem record_head :
    let r := l.record h
    r.getD 0 0#8 = h ∧ byteAt r 1 = l.terminal.val + 16 * l.owner.idx.val ∧ byteAt r 2 = (byte l.state.code).toNat ∧
      byteAt r 3 = (byte (marksOf l.presence)).toNat ∧ byteAt r 4 = (byte (marksOf l.marks)).toNat := by
  rw [record_eq]
  have howner := l.owner.idx.isLt
  exact ⟨rfl, toNat_byte_of_lt (by omega), rfl, rfl, rfl⟩

/-- Bytes 5 to 16: what the lease was opened with, and the reason. -/
theorem record_config :
    let r := l.record h
    longAt r 5 = l.target % 2 ^ 24 ∧ wordAt r 8 = l.compliance % 2 ^ 16 ∧ wordAt r 10 = l.rampTime.getD 0 % 2 ^ 16 ∧
      wordAt r 12 = l.tolerance.getD 0 % 2 ^ 16 ∧ wordAt r 14 = l.waitLimit % 2 ^ 16 ∧
      byteAt r 16 = (l.tag.getD 0 + 16 * l.state.reason) % 256 := by
  rw [record_eq]
  exact ⟨longAt_of_drop rfl, wordAt_of_drop rfl, wordAt_of_drop rfl, wordAt_of_drop rfl, wordAt_of_drop rfl, toNat_byte _⟩

/-- Bytes 17 to 28: the range and the allocation. -/
theorem record_alloc :
    let r := l.record h
    byteAt r 17 = (byte ((l.range.map (·.code)).getD 0 + 16 * (l.alloc.map (·.bank.val)).getD 0)).toNat ∧
      (∀ j < 6, r.getD (18 + j) 0#8 = cellByte l.alloc j) ∧ wordAt r 24 = (l.alloc.map (·.baseCode)).getD 0 % 2 ^ 16 ∧
      r.getD 26 0#8 = BitVec.ofInt 8 ((l.alloc.map (·.trim)).getD 0) ∧ wordAt r 27 = (l.alloc.map (·.charge)).getD 0 % 2 ^ 16 := by
  rw [record_eq]
  refine ⟨rfl, fun j hj => ?_, wordAt_of_drop rfl, rfl, wordAt_of_drop rfl⟩
  interval_cases j <;> rfl

/-- Bytes 29 to 45: the times, the ramp and the last measurement. -/
theorem record_progress :
    let r := l.record h
    wordAt r 29 = (l.duration.map (·.count)).getD 0 % 2 ^ 16 ∧ wordAt r 31 = (l.duration.map (·.reported)).getD 0 % 2 ^ 16 ∧
      wordAt r 33 = l.state.wait?.getD 0 % 2 ^ 16 ∧ longAt r 35 = (l.ramp.map (·.fromLevel)).getD 0 % 2 ^ 24 ∧
      wordAt r 38 = (l.ramp.map (·.timeRemaining)).getD 0 % 2 ^ 16 ∧ r.getD 40 0#8 = l.rampCount ∧
      longAt r 41 = (l.lastMeasurement.map (·.current)).getD 0 % 2 ^ 24 ∧
      wordAt r 44 = (l.lastMeasurement.map (·.voltage)).getD 0 % 2 ^ 16 := by
  rw [record_eq]
  exact ⟨wordAt_of_drop rfl, wordAt_of_drop rfl, wordAt_of_drop rfl, longAt_of_drop rfl, wordAt_of_drop rfl, rfl, longAt_of_drop rfl,
    wordAt_of_drop rfl⟩

end

/-- Remaining in the lease's unit, rounded up (R12). -/
theorem reported_eq (d : Duration) :
    (some d).map (·.reported) = some (if d.unit = .minutes then (d.remaining + 59) / 60 else d.remaining) := by
  obtain ⟨_ | _, _, _⟩ := d <;> rfl

/-- An accepted QUERY answers the record it names, under the handle it was asked with (R18). -/
theorem exec_query {x : Seat} {h : Handle} {s : State} {k : Fin 32} {l : Lease} (hs : Subject (.query x h) x h s k l) :
    exec (.query x h) s = .next
      ((if x = l.owner then s.taken.putLease k { l with changed := false } else s.taken).respond (.query x h) x .ok (l.record h)) := by
  have hh : h = s.taken.handleAt k := (resolve_eq_some.1 hs.2.1).2.1
  refine (request_of_subject (f := fun k l s => s.readRecord x k l) rfl hs).trans ?_
  rw [readRecord, ← hh]

/-- Settles O37: QUERY is a read of the record, and each field of 11.5 is one field of the record. -/
theorem queryReturnsRecord : Obligations.QueryReturnsRecord := by
  unfold Obligations.QueryReturnsRecord
  refine ⟨fun x h s k l => exec_query, fun l h => ?_⟩
  intro r b word long marked fault suspended closed reason
  obtain ⟨hhandle, hterminal, hstate, hpresence, hmarks⟩ := record_head l h
  obtain ⟨htarget, hcompliance, hramp, htolerance, hwait, htag⟩ := record_config l h
  obtain ⟨hrange, hcells, hbase, htrim, hcharge⟩ := record_alloc l h
  obtain ⟨hcount, hreported, hwaited, hfrom, htime, hrampCount, hcurrent, hvoltage⟩ := record_progress l h
  have hreason : l.state.reason = reason := by
    unfold reason
    rcases l.state with _ | _ | _ | _ | (_ | _) | _ | _ <;> rfl
  obtain ⟨hrangeCode, hbank⟩ := rangeBank_byte l.range l.alloc
  rw [← hrange] at hrangeCode hbank
  refine ⟨rfl, record_length l h, hhandle, hterminal, hstate.trans (toNat_leaseCode _), ?presence, ?marks, htarget, hcompliance, hramp,
    htolerance, hwait, htag.trans (by rw [hreason]), ?range, ?noAlloc, ?alloc, ?noDuration, ?duration, ?waited, ?noRamp, ?ramp, hrampCount,
    ?noMeasurement, ?measurement⟩
  case presence =>
    have hp := presence_marks l
    rw [← hpresence] at hp
    exact hp
  case marks =>
    have hm := flag_marks l
    rw [← hmarks] at hm
    exact hm
  case range => exact hrangeCode
  case noAlloc =>
    intro ha
    rw [ha] at hbank hcells hbase htrim hcharge
    exact ⟨hbank, fun j hj => congrArg BitVec.toNat (hcells j hj), hbase, congrArg BitVec.toNat htrim, hcharge⟩
  case alloc =>
    intro a ha
    rw [ha] at hbank hcells hbase htrim hcharge
    exact ⟨hbank, fun j hj => (congrArg BitVec.toNat (hcells j hj)).trans (toNat_cellByte a j), hbase, htrim, hcharge⟩
  case noDuration =>
    intro hd
    rw [hd] at hcount hreported
    exact ⟨hcount, hreported⟩
  case duration =>
    intro d hd
    rw [hd] at hcount hreported
    rw [reported_eq] at hreported
    exact ⟨hcount, hreported⟩
  case waited =>
    refine hwaited.trans ?_
    cases l.state <;> rfl
  case noRamp =>
    intro hr
    rw [hr] at hfrom htime
    exact ⟨hfrom, htime⟩
  case ramp =>
    intro m hr
    rw [hr] at hfrom htime
    exact ⟨hfrom, htime⟩
  case noMeasurement =>
    intro hm
    rw [hm] at hcurrent hvoltage
    exact ⟨hcurrent, hvoltage⟩
  case measurement =>
    intro m hm
    rw [hm] at hcurrent hvoltage
    exact ⟨hcurrent, hvoltage⟩

end Sys2Proof.Machine
end


section
/-! PROOFS. The retarget of ADJUST (R12, R88 to R91). -/

namespace Sys2Proof.Machine

open State

/-! ## The cell list (R88) -/

section
variable {a : Allocation} {stay leave : List (Fin 24)} {n : Nat}

/-- The rebuilt list of a list whose leaving cells stand at its end: the cells in order, those from `n` on leaving, and what is appended. -/
theorem rebuilt_eq (free : List (Fin 24)) (h : a.cells = stay.map (⟨·, false⟩) ++ leave.map (⟨·, true⟩)) :
    a.rebuilt n free = ((stay ++ leave).take n).map (⟨·, false⟩) ++ ((stay ++ leave).drop n).map (⟨·, true⟩) ++
      (free.take (n - (stay.length + leave.length))).map (⟨·, false⟩) := by
  have hcell : a.cells.map (·.cell) = stay ++ leave := by simp [h, Function.comp_def]
  have hmark (cs : List ListedCell) (b : Bool) :
      cs.map (fun e => { e with leaving := b }) = (cs.map (·.cell)).map fun x => (⟨x, b⟩ : ListedCell) := by
    rw [List.map_map]; rfl
  have hlen : a.cells.length = stay.length + leave.length := by rw [← List.length_append, ← hcell, List.length_map]
  rw [Allocation.rebuilt, hmark, hmark, List.map_take, List.map_drop, hcell, hlen]

end

/-! ## The retarget (R88 to R90) -/

section
variable (s : State) (k : Fin 32) (l : Lease) (a : Allocation) (target : Nat)

/-- The cells a retarget appends (R88). -/
def appendedCells : List (Fin 24) := (s.freeIn a.bank).take (cellCount (l.range.getD .low) target - a.cells.length)

/-- The allocation a retarget leaves (R88, R89). -/
def retargeted : Allocation :=
  { bank := a.bank, cells := a.rebuilt (cellCount (l.range.getD .low) target) (s.freeIn a.bank)
    baseCode := baseCodeOf (l.range.getD .low) (cellCount (l.range.getD .low) target) target
    trim := 0, charge := chargeOf target (s.bank a.bank).rail }

theorem retarget_eq :
    s.retarget k l a target =
      ((s.allotCells (s.handleAt k) l.terminal (l.range.getD .low) (appendedCells s l a target)).setCommitted a.bank
        (s.committed a.bank - a.charge + chargeOf target (s.bank a.bank).rail)).putLease k
        { l with target := target, alloc := some (retargeted s l a target) } := by
  simp [retarget, appendedCells, retargeted]

end

/-- The leaving cells freed at once, written out (R90). -/
theorem freeLeaving_eq {s : State} {k : Fin 32} {l : Lease} {a : Allocation} (hl : s.lease? k = some l) (ha : l.alloc = some a) :
    s.freeLeaving k = (s.freeCells a.leavingCells).putLease k { l with alloc := some a.withoutLeaving } := by
  simp [freeLeaving, hl, ha]

theorem mem_leavingCells {a : Allocation} {c : Fin 24} : c ∈ a.leavingCells ↔ ∃ e ∈ a.cells, e.cell = c ∧ e.leaving = true := by
  simp only [Allocation.leavingCells, List.mem_map, List.mem_filter]
  exact ⟨fun ⟨e, ⟨he, hm⟩, hc⟩ => ⟨e, he, hc, hm⟩, fun ⟨e, he, hc, hm⟩ => ⟨e, ⟨he, hm⟩, hc⟩⟩

/-! ## The reported remaining and the extension (R12, R91) -/

theorem reported_seconds {d : Duration} (h : d.unit = .seconds) : d.reported = d.remaining := by
  simp [Duration.reported, h]

theorem reported_minutes {d : Duration} (h : d.unit = .minutes) :
    d.remaining ≤ 60 * d.reported ∧ 60 * d.reported < d.remaining + 60 := by
  simp only [Duration.reported, h, ceilDiv]
  omega

theorem toSeconds_eq (u : TimeUnit) (n : Nat) : u.toSeconds n = if u = .minutes then n * 60 else n := by
  cases u <;> rfl

/-- An extension that keeps the reported remaining within 4095 is made (R91). -/
theorem extendRunning_of_le {c : Duration} {m : Nat} (h : c.reported + m ≤ 4095) :
    Duration.extendRunning (some c) m = some { c with remaining := c.remaining + if c.unit = .minutes then m * 60 else m } := by
  simp [Duration.extendRunning, Nat.not_lt.2 h, toSeconds_eq]

/-! ## An accepted retarget -/

/-- Every check of a new target passes (R87). -/
theorem retargetRefusal_eq_none {s : State} {l : Lease} {a : Allocation} {target : Nat}
    (hn : cellCount (l.range.getD .low) target ≤ 6)
    (hquota : s.allottedCount l.owner - a.cells.length + max a.cells.length (cellCount (l.range.getD .low) target) ≤
      (s.seat l.owner).cellQuota)
    (hfree : cellCount (l.range.getD .low) target - a.cells.length ≤ (s.freeIn a.bank).length)
    (hbudget : s.committed a.bank - a.charge + chargeOf target (s.bank a.bank).rail ≤ (s.bank a.bank).budget) :
    s.retargetRefusal l a target = none := by
  simp [retargetRefusal, Nat.not_lt.2 hn, Nat.not_lt.2 hquota, Nat.not_lt.2 hfree, Nat.not_lt.2 hbudget]

section
variable {p : AdjustParams} {q : AdjustRequest} {s : State} {k : Fin 32} {l : Lease} {a : Allocation} {target : Nat} {d : Option Duration}
  (hq : adjustRequest? p = some q) (ht : q.target = some target) (ha : l.alloc = some a)
  (hd : extended Duration.extendRunning l.duration q.extension = some d) (hr : s.retargetRefusal l a target = none)
include hq ht ha hd hr

/-- A retarget of a lease in ACTIVE starts an adjust ramp (R89). -/
theorem adjustHolding_active :
    adjustHolding p k l false s = accept (((s.retarget k { l with duration := d } a target).startTargetRamp k).rescanIf
      (decide (chargeOf target (s.bank a.bank).rail < a.charge))) := by
  simp [adjustHolding, hq, hd, ht, ha, hr]

/-- A retarget of a lease in SUSPENDED frees its leaving cells (R90). -/
theorem adjustHolding_suspended :
    adjustHolding p k l true s = accept (((s.retarget k { l with duration := d } a target).freeLeaving k).rescanIf
      (decide (chargeOf target (s.bank a.bank).rail < a.charge) ||
        decide (cellCount (l.range.getD .low) target < a.cells.length))) := by
  simp [adjustHolding, hq, hd, ht, ha, hr]

end

/-- An ADJUST answers by the state of its record. -/
theorem exec_adjust {x : Seat} {p : AdjustParams} {s : State} {k : Fin 32} {l : Lease} {r : Reply}
    (hs : Subject (.adjust x p) x p.handle s k l) (hb : adjustLease p k l s.taken = r) :
    exec (.adjust x p) s = .next (r.state.respond (.adjust x p) x r.status r.payload) :=
  hb ▸ request_of_subject (f := adjustLease p) rfl hs

/-- Settles O42: an accepted retarget is `retarget` and what its state asks for, and `retarget` writes the record, the appended cells and
the committed charge. -/
theorem retargetRebuildsAllocation : Obligations.RetargetRebuildsAllocation := by
  unfold Obligations.RetargetRebuildsAllocation
  refine ⟨fun x p q s k l a target hs hq ht ha => ?accepted, fun s k l a target => ?frame, fun s k l a hl ha => ?leaving,
    fun d => ⟨reported_seconds, reported_minutes⟩, fun a n stay leave free => ?rebuilt⟩
  case accepted =>
    intro s1 i n len charge hn hquota hfree hbudget d hd s2
    have hrefusal := retargetRefusal_eq_none hn hquota hfree hbudget
    have hext : extended Duration.extendRunning l.duration q.extension = some d := by
      obtain ⟨hq, rfl⟩ | ⟨m, c, hq, hc, hm, rfl⟩ := hd
      · rw [hq]; rfl
      · rw [hq, hc, extended, extendRunning_of_le hm]; rfl
    refine ⟨fun m u hst => exec_adjust (r := accept ((s2.startTargetRamp k).rescanIf (decide (charge < a.charge)))) hs ?_, fun why hst =>
      exec_adjust (r := accept ((s2.freeLeaving k).rescanIf (decide (charge < a.charge) || decide (n < len)))) hs ?_⟩
    · rw [adjustLease, hst]
      exact adjustHolding_active hq ht ha hext hrefusal
    · rw [adjustLease, hst]
      exact adjustHolding_suspended hq ht ha hext hrefusal
  case frame =>
    intro r n appended t a1
    have ht : t = _ := retarget_eq s k l a target
    clear_value t
    subst ht
    refine ⟨?record, fun j hj => by simp [slot_putLease_of_ne, hj], fun c => cell_allotCells _ _ _ _ _ c,
      fun c => drive_allotCells _ _ _ _ _ c, fun b => ?_, by simp⟩
    case record => rw [lease_putLease, if_pos rfl]; rfl
    by_cases hb : b = a.bank
    · simp [hb]
    · simp [hb, Ne.symm hb]
  case leaving =>
    intro t gone
    have ht : t = _ := freeLeaving_eq hl ha
    clear_value t
    subst ht
    have hgone (c : Fin 24) : gone c ↔ c ∈ a.leavingCells := mem_leavingCells.symm
    refine ⟨?record, fun j hj => by simp [slot_putLease_of_ne, hj], by simp, fun c hc => ?_, fun c hc => ?_, by simp⟩
    case record => rw [lease_putLease, if_pos rfl]; rfl
    · rw [hgone] at hc
      simp [hc]
    · rw [hgone] at hc
      simp [hc]
  case rebuilt =>
    intro kept leaving h
    rw [rebuilt_eq free h, h]
    refine ⟨fun hn => ?_, fun hn => ?_, fun hn hl => ?_, fun hn => ?_⟩
    · have happend : n - (stay.length + leave.length) = 0 := by omega
      rw [happend, hn, List.take_left, List.drop_left, List.take_zero, List.map_nil, List.append_nil]
    · have happend : n - (stay.length + leave.length) = 0 := by omega
      rw [happend, List.take_append_of_le_length hn.le, List.drop_append_of_le_length hn.le, List.take_zero, List.map_nil,
        List.append_nil]
    · have happend : n - (stay.length + leave.length) = 0 := by omega
      rw [happend, List.take_append, List.drop_append, List.take_of_length_le hn.le, List.drop_eq_nil_of_le hn.le, List.nil_append,
        List.take_zero, List.map_nil, List.append_nil]
    · have hall : (stay ++ leave).length ≤ n := by rw [List.length_append]; exact hn.le
      rw [List.take_of_length_le hall, List.drop_eq_nil_of_le hall, List.map_nil, List.append_nil, ← List.map_append, Nat.sub_sub]

end Sys2Proof.Machine
end


section
/-! PROOFS. What the soundness of the lease table reads of a state, and which changes of it keep it sound (R60, R79, R110, R123, R132). -/

namespace Sys2Proof.Machine

open State

/-- What the soundness of the lease table reads of a record. -/
structure Core where
  owner    : Seat
  state    : LeaseState
  duration : Option Duration
  trim     : Option Int

/-- What the soundness of the lease table reads of a state. -/
structure Table where
  cores    : Fin 32 → Option Core
  waitList : List (Fin 32)
  quota    : Seat → Nat

/-- The core of a record; the trim is that of its allocation (R11). -/
def Lease.core (l : Lease) : Core := ⟨l.owner, l.state, l.duration, l.alloc.map (·.trim)⟩

/-- The table of a state: the cores of its records, its wait list and its lease quotas. -/
def State.table (s : State) : Table :=
  ⟨fun k => (s.lease? k).map Lease.core, s.allocator.waitList, fun x => (s.seat x).leaseQuota⟩

/-! ## Soundness of a table -/

/-- The trim is in bounds (R110), and remaining is 0 on the way to CLOSED only (R79, R123). -/
def Core.Sound (c : Core) : Prop :=
  (∀ n ∈ c.trim, -64 ≤ n ∧ n ≤ 63) ∧ ∀ d ∈ c.duration, d.remaining = 0 → c.state.ending = true

/-- A seat's record count (R1). -/
def Table.count (t : Table) (x : Seat) : Nat := allSlots.countP fun k => (t.cores k).any (·.owner == x)

/-- The soundness of the lease table, read off a table. -/
structure Table.Sound (t : Table) : Prop where
  nodup   : t.waitList.Nodup
  places  : t.waitList.length ≤ Config.waitPlaces
  waiting : ∀ k, k ∈ t.waitList ↔ ∃ c ∈ t.cores k, c.state.wait? ≠ none
  records : ∀ k, ∀ c ∈ t.cores k, c.Sound
  counts  : ∀ x, t.count x ≤ t.quota x

theorem core_sound_iff {l : Lease} : l.core.Sound ↔
    (∀ a ∈ l.alloc, -64 ≤ a.trim ∧ a.trim ≤ 63) ∧ ∀ d ∈ l.duration, d.remaining = 0 → l.state.ending = true := by
  simp [Core.Sound, Lease.core]

theorem recordCount_eq_count (s : State) (x : Seat) : s.recordCount x = s.table.count x := by
  have hany (k : Fin 32) : s.ownedBy x k = (s.table.cores k).any (·.owner == x) := by
    simp only [State.table, ownedBy, Option.any_map]; rfl
  rw [recordCount, ← List.countP_eq_length_filter, Table.count]
  exact congrArg (List.countP · allSlots) (funext hany)

/-- The lease table is sound exactly when its table is. -/
theorem leaseTableSound_iff {s : State} : s.leaseTableSound ↔ s.table.Sound := by
  have hwaits (k : Fin 32) : (∃ l ∈ s.lease? k, l.state.wait? ≠ none) ↔ ∃ c ∈ s.table.cores k, c.state.wait? ≠ none := by
    simp [State.table, Lease.core]
  have hcores (k : Fin 32) : (∀ l ∈ s.lease? k, l.core.Sound) ↔ ∀ c ∈ s.table.cores k, c.Sound := by
    simp [State.table]
  simp only [leaseTableSound, waitListSound, hwaits, ← core_sound_iff, hcores, recordCount_eq_count]
  exact ⟨fun ⟨⟨hn, hp, hw⟩, hr, hc⟩ => ⟨hn, hp, hw, hr, hc⟩, fun ⟨hn, hp, hw, hr, hc⟩ => ⟨⟨hn, hp, hw⟩, hr, hc⟩⟩

/-! ## Changes of a table -/

namespace Table

variable (t : Table) (k : Fin 32) (c : Core)

/-- A record written to a slot. -/
def put : Table := { t with cores := Function.update t.cores k (some c) }

/-- A slot emptied. -/
def clear : Table := { t with cores := Function.update t.cores k none }

/-- A slot taken off the wait list. -/
def leave : Table := { t with waitList := t.waitList.filter (· != k) }

/-- A slot at the end of the wait list. -/
def join : Table := { t with waitList := t.waitList ++ [k] }

variable {t k c}

theorem cores_put (j : Fin 32) : (t.put k c).cores j = if j = k then some c else t.cores j := Function.update_apply ..

theorem cores_clear (j : Fin 32) : (t.clear k).cores j = if j = k then none else t.cores j := Function.update_apply ..

theorem put_self (h : t.cores k = some c) : t.put k c = t := by
  rw [put, ← h, Function.update_eq_self]

@[simp] theorem put_put (d : Core) : (t.put k c).put k d = t.put k d := by
  simp [put]

/-- A record of the same owner in the place of another leaves the counts as they are. -/
theorem count_put_of_owner {d : Core} (hc : t.cores k = some c) (ho : d.owner = c.owner) (x : Seat) :
    (t.put k d).count x = t.count x := by
  refine congrArg (List.countP · allSlots) (funext fun j => ?_)
  rw [cores_put]
  split
  · rename_i hj; subst hj; simp [hc, ho]
  · rfl

/-- A new record raises the count of its owner by one. -/
theorem count_put_le (x : Seat) : (t.put k c).count x ≤ t.count x + if c.owner = x then 1 else 0 := by
  simp only [count, List.countP_eq_length_filter]
  have hk : k ∈ allSlots.filter (fun j => ((t.put k c).cores j).any (·.owner == x)) → c.owner = x := by
    simp [cores_put]
  have hsub : allSlots.filter (fun j => ((t.put k c).cores j).any (·.owner == x)) ⊆
      (if c.owner = x then [k] else []) ++ allSlots.filter (fun j => (t.cores j).any (·.owner == x)) := by
    intro j hj
    by_cases hjk : j = k
    · subst hjk; simp [hk hj]
    · simp only [List.mem_filter, cores_put, hjk, if_false] at hj
      simp [hj]
  refine ((nodup_allSlots.filter _).subperm hsub).length_le.trans (le_of_eq ?_)
  split <;> simp [Nat.add_comm]

theorem count_clear_le (x : Seat) : (t.clear k).count x ≤ t.count x := by
  refine List.countP_mono_left fun j _ => ?_
  rw [cores_clear]
  split <;> simp

/-! ## Changes that keep a table sound -/

variable {d : Core}

theorem Sound.records_put (h : t.Sound) (hd : d.Sound) : ∀ j, ∀ e ∈ (t.put k d).cores j, e.Sound := by
  intro j e he
  rw [cores_put] at he
  split at he
  · cases he; exact hd
  · exact h.records j e he

/-- A record rewritten for the same owner, as sound and as waiting as before. -/
theorem Sound.put (h : t.Sound) (hc : t.cores k = some c) (ho : d.owner = c.owner)
    (hw : d.state.wait? ≠ none ↔ c.state.wait? ≠ none) (hd : d.Sound) : (t.put k d).Sound where
  nodup := h.nodup
  places := h.places
  waiting j := by
    rw [cores_put]
    refine (h.waiting j).trans ?_
    split
    · rename_i hj; subst hj; simp [hc, hw]
    · rfl
  records := h.records_put hd
  counts x := by rw [count_put_of_owner hc ho]; exact h.counts x

/-- A record that stops waiting leaves the wait list (R60). -/
theorem Sound.put_leave (h : t.Sound) (hc : t.cores k = some c) (ho : d.owner = c.owner) (hw : d.state.wait? = none) (hd : d.Sound) :
    ((t.put k d).leave k).Sound where
  nodup := h.nodup.filter _
  places := (List.length_filter_le ..).trans h.places
  waiting j := by
    change j ∈ t.waitList.filter (· != k) ↔ ∃ e ∈ (t.put k d).cores j, _
    rw [cores_put, List.mem_filter, h.waiting j]
    by_cases hj : j = k <;> simp [hj, hw]
  records := h.records_put hd
  counts x := le_of_eq_of_le (count_put_of_owner hc ho x) (h.counts x)

/-- No waiting record stands in a slot off the wait list. -/
theorem Sound.not_mem (h : t.Sound) (hc : ∀ c ∈ t.cores k, c.state.wait? = none) : k ∉ t.waitList := by
  rw [h.waiting]
  rintro ⟨c, hk, hw⟩
  exact hw (hc c hk)

theorem Sound.counts_put (h : t.Sound) (hq : t.count d.owner < t.quota d.owner) (x : Seat) : (t.put k d).count x ≤ t.quota x := by
  have := h.counts x
  refine (count_put_le x).trans ?_
  split
  · rename_i hx; subst hx; omega
  · omega

/-- A new record that does not wait, below its owner's quota (R132). -/
theorem Sound.fill (h : t.Sound) (hk : t.cores k = none) (hq : t.count d.owner < t.quota d.owner) (hw : d.state.wait? = none)
    (hd : d.Sound) : (t.put k d).Sound where
  nodup := h.nodup
  places := h.places
  waiting j := by
    rw [cores_put]
    refine (h.waiting j).trans ?_
    split
    · rename_i hj; subst hj; simp [hk, hw]
    · rfl
  records := h.records_put hd
  counts := h.counts_put hq

/-- A new record that waits, below its owner's quota, at the end of a wait list with room (R59, R60, R132). -/
theorem Sound.fill_join (h : t.Sound) (hk : t.cores k = none) (hq : t.count d.owner < t.quota d.owner) (hw : d.state.wait? ≠ none)
    (hl : t.waitList.length < Config.waitPlaces) (hd : d.Sound) : ((t.put k d).join k).Sound where
  nodup := by
    have hmem : k ∉ t.waitList := h.not_mem (by simp [hk])
    refine List.nodup_append.2 ⟨h.nodup, List.nodup_singleton k, fun a ha b hb => ?_⟩
    rw [List.mem_singleton.1 hb]
    exact fun e => hmem (e ▸ ha)
  places := by
    change (t.waitList ++ [k]).length ≤ _
    rw [List.length_append, List.length_singleton]
    exact hl
  waiting j := by
    change j ∈ t.waitList ++ [k] ↔ ∃ e ∈ (t.put k d).cores j, _
    rw [cores_put, List.mem_append, List.mem_singleton, h.waiting j]
    by_cases hj : j = k <;> simp [hj, hw]
  records := h.records_put hd
  counts := h.counts_put hq

/-- A slot emptied of a record that does not wait. -/
theorem Sound.clear (h : t.Sound) (hc : ∀ c ∈ t.cores k, c.state.wait? = none) : (t.clear k).Sound where
  nodup := h.nodup
  places := h.places
  waiting j := by
    rw [cores_clear]
    refine (h.waiting j).trans ?_
    split
    · rename_i hj
      subst hj
      simpa using hc
    · rfl
  records j c hj := by
    rw [cores_clear] at hj
    split at hj
    · cases hj
    · exact h.records j c hj
  counts x := (count_clear_le x).trans (h.counts x)

/-- A lease that is not waiting goes to another state: one on its way to CLOSED stays on it. -/
theorem Sound.move (h : t.Sound) (hc : t.cores k = some c) {st : LeaseState} (hw : c.state.wait? = none) (hst : st.wait? = none)
    (he : c.state.ending = true → st.ending = true) : (t.put k { c with state := st }).Sound :=
  h.put hc rfl (by simp [hw, hst]) ⟨(h.records k c hc).1, fun d hd hr => he ((h.records k c hc).2 d hd hr)⟩

/-- A lease that was not waiting closes, whatever becomes of its allocation. -/
theorem Sound.close (h : t.Sound) (hc : t.cores k = some c) (hw : c.state.wait? = none) (why : EndReason) :
    (t.put k { c with state := .closed why, trim := none }).Sound :=
  h.put hc rfl ⟨fun h => absurd rfl h, fun h => absurd hw h⟩ ⟨by simp, fun _ _ _ => rfl⟩

/-- A lease quota set no lower than the count of its seat (R129, R132). -/
theorem Sound.requote (h : t.Sound) {x : Seat} {n : Nat} (hn : t.count x ≤ n) :
    Sound { t with quota := Function.update t.quota x n } where
  nodup := h.nodup
  places := h.places
  waiting := h.waiting
  records := h.records
  counts y := by
    change t.count y ≤ Function.update t.quota x n y
    rw [Function.update_apply]
    split
    · rename_i hy; rwa [hy]
    · exact h.counts y

end Table

end Sys2Proof.Machine
end


section
/-! PROOFS. What acts do to the table that the soundness of the lease table reads: most leave it alone, an act on one lease writes the
record of that lease. -/

namespace Sys2Proof.Machine.State

variable (s : State)

theorem foldl_table {α : Type} {f : State → α → State} (h : ∀ s a, (f s a).table = s.table) (l : List α) (s : State) :
    (l.foldl f s).table = s.table := by
  induction l generalizing s with
  | nil => rfl
  | cons a l ih => rw [List.foldl_cons, ih, h]

theorem cores_eq {s : State} {k : Fin 32} {l : Lease} (h : s.lease? k = some l) : s.table.cores k = some l.core := by
  simp [table, h]

/-! ## Acts that leave the table alone -/

theorem table_setSeat_quota (x : Seat) (e : SeatEntry) :
    (s.setSeat x e).table = { s.table with quota := Function.update s.table.quota x e.leaseQuota } := by
  have hq (y : Seat) : ((s.setSeat x e).seat y).leaseQuota = Function.update s.table.quota x e.leaseQuota y := by
    rw [seat_setSeat, Function.update_apply]
    by_cases hy : x = y
    · simp [hy]
    · simp [hy, Ne.symm hy, table]
  simp only [table, hq, lease_setSeat, setSeat_allocator]

/-- A seat rewritten with its lease quota. -/
theorem table_setSeat {s : State} {x : Seat} {e : SeatEntry} (h : e.leaseQuota = (s.seat x).leaseQuota) :
    (s.setSeat x e).table = s.table := by
  rw [table_setSeat_quota, h]
  exact congrArg (Table.mk _ _) (Function.update_eq_self x _)

@[simp] theorem table_setCell (c v) : (s.setCell c v).table = s.table := rfl
@[simp] theorem table_setDrive (c v) : (s.setDrive c v).table = s.table := rfl
@[simp] theorem table_setBank (b v) : (s.setBank b v).table = s.table := rfl
@[simp] theorem table_setTerminal (m v) : (s.setTerminal m v).table = s.table := rfl
@[simp] theorem table_setCommitted (b v) : (s.setCommitted b v).table = s.table := rfl
@[simp] theorem table_handPool (n) : (s.handPool n).table = s.table := rfl
@[simp] theorem table_driveOutputs : s.driveOutputs.table = s.table := rfl
@[simp] theorem table_moveBank (b st) : (s.moveBank b st).table = s.table := rfl
@[simp] theorem table_writeCode (c v) : (s.writeCode c v).table = s.table := rfl
@[simp] theorem table_zeroCode (c) : (s.zeroCode c).table = s.table := rfl
@[simp] theorem table_freeCell (c) : (s.freeCell c).table = s.table := rfl
@[simp] theorem table_allotCell (h m r c) : (s.allotCell h m r c).table = s.table := rfl
@[simp] theorem table_zeroCodes (cs) : (s.zeroCodes cs).table = s.table := foldl_table (by simp) ..
@[simp] theorem table_freeCells (cs) : (s.freeCells cs).table = s.table := foldl_table (by simp) ..
@[simp] theorem table_allotCells (h m r cs) : (s.allotCells h m r cs).table = s.table := foldl_table (by simp) ..
@[simp] theorem table_writeRamp (cs n) : (s.writeRamp cs n).table = s.table := foldl_table (by simp) ..
@[simp] theorem table_releaseTerminal (m) : (s.releaseTerminal m).table = s.table := rfl

@[simp] theorem table_postEdge (x v) : (s.postEdge x v).table = s.table := by
  unfold postEdge; split <;> [exact table_setSeat rfl; rfl]
@[simp] theorem table_raiseLevel (x v) : (s.raiseLevel x v).table = s.table := by
  unfold raiseLevel; split <;> [exact table_setSeat rfl; rfl]
@[simp] theorem table_endLevel (x v) : (s.endLevel x v).table = s.table := by
  unfold endLevel; split <;> [exact table_setSeat rfl; rfl]
@[simp] theorem table_clearEvents (x) : (s.clearEvents x).table = s.table := table_setSeat rfl
@[simp] theorem table_setKeepalive (x v) : (s.setKeepalive x v).table = s.table := table_setSeat rfl
@[simp] theorem table_acknowledgeLevel (x a v) : (s.acknowledgeLevel x a v).table = s.table := by
  unfold acknowledgeLevel; simp only; split <;> [split <;> exact table_setSeat rfl; rfl]
@[simp] theorem table_acknowledge (x a) : (s.acknowledge x a).table = s.table :=
  (foldl_table (by simp) ..).trans (table_setSeat rfl)
@[simp] theorem table_raiseHold : s.raiseHold.table = s.table := foldl_table (by simp) ..
@[simp] theorem table_endHold : s.endHold.table = s.table := foldl_table (by simp) ..
@[simp] theorem table_endBankFault : s.endBankFault.table = s.table := by unfold endBankFault; split <;> simp

@[simp] theorem table_enterOn (b) : (s.enterOn b).table = s.table := by unfold enterOn; split <;> rfl
@[simp] theorem table_demandRisen (b) : (s.demandRisen b).table = s.table := by
  unfold demandRisen
  split
  · split <;> simp
  all_goals simp
@[simp] theorem table_demandFallen (b) : (s.demandFallen b).table = s.table := by unfold demandFallen; split <;> simp
@[simp] theorem table_raiseClaim (b) : (s.raiseClaim b).table = s.table := by simp [raiseClaim]
@[simp] theorem table_raiseDriving (b) : (s.raiseDriving b).table = s.table := by simp [raiseDriving]
@[simp] theorem table_claimToDriving (b) : (s.claimToDriving b).table = s.table := rfl
@[simp] theorem table_reportStop (st b) : (s.reportStop st b).table = s.table := by
  unfold reportStop; split <;> simp [dropClaim, dropDriving]

@[simp] theorem table_joinVerify (h) : (s.joinVerify h).table = s.table := by unfold joinVerify; split <;> rfl
@[simp] theorem table_reconsider : s.reconsider.table = s.table := by
  unfold reconsider
  repeat' split
  all_goals rfl
@[simp] theorem table_startDwell : s.startDwell.table = s.table := by unfold startDwell; split <;> rfl
@[simp] theorem table_makeVisitDue : s.makeVisitDue.table = s.table := rfl

@[simp] theorem table_freeTesting (cs) : (s.freeTesting cs).table = s.table := foldl_table (fun s c => by split <;> simp) ..
@[simp] theorem table_stopCellUnderTest (t) : (s.stopCellUnderTest t).table = s.table := by
  unfold stopCellUnderTest; split <;> simp
@[simp] theorem table_loseTest (b) : (s.loseTest b).table = s.table := by
  unfold loseTest
  split
  · rename_i t _
    split
    · rw [table_postEdge]
      exact (table_freeTesting ..).trans (table_stopCellUnderTest ..)
    · rfl
  · rfl
@[simp] theorem table_startTestStep (t c r k) : (s.startTestStep t c r k).table = s.table := rfl

@[simp] theorem table_enterHold (c) : (s.enterHold c).table = s.table := by
  unfold enterHold; split <;> [rfl; (rw [table_raiseHold]; rfl)]
@[simp] theorem table_fireTrip (n) : (s.fireTrip n).table = s.table := by
  simp only [fireTrip, table_postEdge, table_enterHold]; rfl
@[simp] theorem table_matchNotice (n) : (s.matchNotice n).table = s.table := foldl_table (fun s i => by split <;> simp) ..
@[simp] theorem table_setRailGood (b v) : (s.setRailGood b v).table = s.table := rfl

/-! ## Acts on one record -/

@[simp] theorem table_putLease (k : Fin 32) (l : Lease) : (s.putLease k l).table = s.table.put k l.core := by
  have hcores (j : Fin 32) : ((s.putLease k l).lease? j).map Lease.core = (s.table.put k l.core).cores j := by
    rw [lease_putLease, Table.cores_put]
    by_cases hj : k = j
    · simp [hj]
    · simp [hj, Ne.symm hj, table]
  simp only [table, hcores]
  rfl

section
variable {s : State} {k : Fin 32} {l : Lease} (hl : s.lease? k = some l)
include hl

/-- A record rewritten with what the table reads of it. -/
theorem table_putLease_of_core {m : Lease} (hm : m.core = l.core) : (s.putLease k m).table = s.table := by
  rw [table_putLease, hm, Table.put_self (cores_eq hl)]

theorem table_closeHolding (why : EndReason) :
    (s.closeHolding k why).table = s.table.put k { l.core with state := .closed why, trim := none } := by
  unfold closeHolding
  simp only [hl]
  split
  · simp [Lease.core]
  · rename_i ha
    simp [Lease.core, ha]

theorem table_suspendHolding (why : SuspendReason) :
    (s.suspendHolding k why).table = s.table.put k { l.core with state := .suspended why } := by
  unfold suspendHolding
  simp only [hl]
  split
  · rename_i a ha
    simp [Lease.core, ha, Allocation.withoutLeaving]
  · simp [Lease.core]

theorem table_closeWaiting (why : EndReason) :
    (s.closeWaiting k why).table = (s.table.put k { l.core with state := .closed why }).leave k := by
  unfold closeWaiting
  simp only [hl]
  exact congrArg (Table.leave · k) (s.table_putLease k _)

end

@[simp] theorem table_startRamp (k : Fin 32) (n : Nat) (e : Allocation → List (Fin 24 × Nat)) :
    (s.startRamp k n e).table = s.table := by
  unfold startRamp
  split
  · rename_i l hl
    split
    · simp only
      split
      · exact (table_writeRamp ..).trans (table_putLease_of_core hl rfl)
      · exact table_putLease_of_core hl rfl
    · rfl
  · rfl

@[simp] theorem table_startTargetRamp (k : Fin 32) : (s.startTargetRamp k).table = s.table := by
  unfold startTargetRamp; split <;> simp

@[simp] theorem table_postLease (k : Fin 32) (v : Event) : (s.postLease k v).table = s.table := by
  unfold postLease
  split
  · rename_i l hl
    exact (table_postEdge ..).trans (table_putLease_of_core hl rfl)
  · rfl

@[simp] theorem table_markRailLost (k : Fin 32) : (s.markRailLost k).table = s.table := by
  unfold markRailLost
  split
  · rename_i l hl
    exact table_putLease_of_core hl rfl
  · rfl

@[simp] theorem table_endRamp (k : Fin 32) : (s.endRamp k).table = s.table := by
  unfold endRamp
  split
  · rename_i l hl
    split
    · rename_i r a _ ha
      refine (table_putLease_of_core (l := l) (by simpa using hl) ?_).trans (by simp)
      simp [Lease.core, ha, Allocation.withoutLeaving]
    · exact table_putLease_of_core hl rfl
  · rfl

@[simp] theorem table_freeLeaving (k : Fin 32) : (s.freeLeaving k).table = s.table := by
  unfold freeLeaving
  split
  · rename_i l hl
    split
    · rename_i a ha
      refine (table_putLease_of_core (l := l) (by simpa using hl) ?_).trans (by simp)
      simp [Lease.core, ha, Allocation.withoutLeaving]
    · rfl
  · rfl

@[simp] theorem table_rampStep (k : Fin 32) : (s.rampStep k).table = s.table := by
  unfold rampStep
  split
  · rename_i l hl
    split
    · rename_i r _
      split
      · exact (table_writeRamp ..).trans (table_putLease_of_core hl rfl)
      · rfl
    · rfl
  · rfl

theorem table_enterRampdown {s : State} {k : Fin 32} {l : Lease} (hl : s.lease? k = some l) (d : Destination) :
    (s.enterRampdown k d).table = s.table.put k { l.core with state := .rampdown d } := by
  simp [enterRampdown, hl, Lease.core]

/-- A lease with an allocation enters STARTING (R69). -/
theorem table_enterStarting {s : State} {k : Fin 32} {l : Lease} {a : Allocation} (hl : s.lease? k = some l) (ha : l.alloc = some a) :
    ∃ p, (s.enterStarting k).table = s.table.put k { l.core with state := .starting p } := by
  unfold enterStarting
  simp only [hl, ha]
  split
  · exact ⟨.ramp, by simp [Lease.core, ha]⟩
  · exact ⟨.wake, by simp [Lease.core, ha]⟩

/-- A record with an allocation is written and enters STARTING. -/
theorem table_enterStarting_putLease {s : State} {k : Fin 32} {l : Lease} {a : Allocation} {t : Table} (ht : s.table = t)
    (ha : l.alloc = some a) :
    ∃ p, ((s.putLease k l).enterStarting k).table = t.put k { l.core with state := .starting p } := by
  obtain ⟨p, hp⟩ := table_enterStarting (s := s.putLease k l) (by rw [lease_putLease, if_pos rfl]) ha
  exact ⟨p, hp.trans (by simp [ht])⟩

/-- An admitted record is in STARTING, with trim 0 (R58). -/
theorem table_admitTo (k : Fin 32) (l : Lease) (b : Fin 4) :
    ∃ p, (s.admitTo k l b).table = s.table.put k { l.core with state := .starting p, trim := some 0 } :=
  table_enterStarting_putLease (by simp) rfl

end Sys2Proof.Machine.State
end


section
/-! PROOFS. The acts of the blocks keep the lease table sound. -/

namespace Sys2Proof.Machine

namespace State

theorem sound_of_table {s t : State} (h : t.table = s.table) (hs : s.table.Sound) : t.table.Sound := h ▸ hs

/-- Acts in a row keep the table sound when each does. -/
theorem sound_foldl {α : Type} {f : State → α → State} (h : ∀ s a, s.table.Sound → (f s a).table.Sound) (l : List α) {s : State}
    (hs : s.table.Sound) : (l.foldl f s).table.Sound :=
  List.foldlRecOn l f hs fun s hs a _ => h s a hs

/-- Where a lapse acts at once, the lease is neither waiting nor on its way to CLOSED (R136). -/
theorem of_atOnce {p : LapsePolicy} {st : LeaseState} {d : Destination} :
    p.atOnce st = some d → st.wait? = none ∧ st.ending = false :=
  match st with
  | .starting _ | .verifying | .active _ _ | .suspended _ => fun _ => ⟨rfl, rfl⟩
  | .waiting _ _ | .rampdown _ | .closed _ => nofun

/-- A result applies to a record in its stamped state (R106). -/
theorem of_applicable {s : State} {r : Result} {k : Fin 32} {l : Lease} (h : s.applicable r = some (k, l)) :
    s.lease? k = some l ∧ stampedState r.source l.state = true := by
  rw [applicable, Option.filter_eq_some_iff] at h
  obtain ⟨hr, hp⟩ := h
  simp only [Bool.and_eq_true] at hp
  exact ⟨(resolve_eq_some.1 hr).2.2, hp.1.2⟩

section
variable {s : State} {k : Fin 32} {l : Lease} (hs : s.table.Sound)
include hs

/-- A lease with no second left is on its way to CLOSED or there (R79, R123). -/
theorem ending_of_remaining (hl : s.lease? k = some l) {d : Duration} (hd : l.duration = some d) (hr : d.remaining = 0) :
    l.state.ending = true :=
  (hs.records k _ (cores_eq hl)).2 d hd hr

/-- A lease that is not waiting goes to another state of that kind: one on its way to CLOSED stays on it. -/
theorem sound_move (hl : s.lease? k = some l) {st : LeaseState} (hw : l.state.wait? = none) (hst : st.wait? = none)
    (he : l.state.ending = true → st.ending = true) : (s.putLease k { l with state := st }).table.Sound := by
  rw [table_putLease]
  exact hs.move (cores_eq hl) hw hst he

/-! ## Stops, closings and rescans -/

theorem sound_takeDestination (hl : s.lease? k = some l) (hw : l.state.wait? = none) {d : Destination}
    (he : l.state.ending = true → d.isClosed = true) : (s.takeDestination k d).table.Sound := by
  cases d with
  | suspended why =>
    rw [takeDestination, table_suspendHolding hl]
    exact hs.move (cores_eq hl) hw rfl fun h => absurd (he h) Bool.false_ne_true
  | closed why =>
    rw [takeDestination, table_closeHolding hl]
    exact hs.close (cores_eq hl) hw why

theorem sound_enterRampdown (hl : s.lease? k = some l) (hw : l.state.wait? = none) {d : Destination}
    (he : l.state.ending = true → d.isClosed = true) : (s.enterRampdown k d).table.Sound := by
  rw [table_enterRampdown hl]
  refine hs.move (cores_eq hl) hw rfl fun h => ?_
  cases d with
  | suspended why => exact absurd (he h) Bool.false_ne_true
  | closed why => rfl

theorem sound_closeWaiting (k : Fin 32) (why : EndReason) : (s.closeWaiting k why).table.Sound := by
  cases hl : s.lease? k with
  | none => simpa [closeWaiting, hl] using hs
  | some l =>
    rw [table_closeWaiting hl]
    exact hs.put_leave (cores_eq hl) rfl rfl ⟨(hs.records k _ (cores_eq hl)).1, fun _ _ _ => rfl⟩

/-- A waiting lease that is admitted leaves the wait list (R57, R60). -/
theorem sound_tryWaiting (k : Fin 32) : (s.tryWaiting k).table.Sound := by
  unfold tryWaiting
  split
  · rename_i l hl
    split
    · rename_i n u hst
      split
      · rename_i b _
        obtain ⟨p, hp⟩ := s.table_admitTo k l b
        rw [table_postLease]
        change ((s.admitTo k l b).table.leave k).Sound
        rw [hp]
        refine hs.put_leave (cores_eq hl) rfl rfl ⟨by simp, fun d hd hr => ?_⟩
        have hend := ending_of_remaining hs hl hd hr
        rw [hst] at hend
        exact absurd hend Bool.false_ne_true
      · exact hs
    all_goals exact hs
  · exact hs

theorem sound_rescan : s.rescan.table.Sound := by
  unfold rescan
  split
  · exact hs
  · exact sound_foldl (fun s k hs => sound_tryWaiting hs k) _ hs

theorem sound_rescanIf (b : Bool) : (s.rescanIf b).table.Sound := by
  cases b <;> [exact hs; exact sound_rescan hs]

/-! ## Completions (R73, R74) -/

theorem sound_completeRamp (k : Fin 32) : (s.completeRamp k).table.Sound := by
  unfold completeRamp
  split
  · split
    · exact hs
    · simp only
      have h1 : (s.endRamp k).table.Sound := by rwa [table_endRamp]
      split
      · rename_i l1 hl1
        split
        · rename_i hst
          refine sound_rescanIf ?_ _
          rw [table_reconsider, table_joinVerify]
          exact sound_move h1 hl1 (by rw [hst]; rfl) rfl (by rw [hst]; nofun)
        · exact sound_rescanIf (by rwa [table_reconsider]) _
        · rename_i d hst
          refine sound_rescanIf ?_ _
          rw [table_postLease]
          refine sound_takeDestination h1 hl1 (by rw [hst]; rfl) fun he => ?_
          rw [hst] at he
          cases d <;> exact he
        all_goals exact h1
      · exact h1
  · exact hs

theorem sound_settle : s.settle.table.Sound := by
  unfold settle
  generalize 32 + s.allocator.waitList.length = n
  induction n generalizing s with
  | zero => exact hs
  | succ n ih =>
    unfold settleWithin
    split
    · exact ih (by rw [table_driveOutputs]; exact sound_completeRamp hs _)
    · exact hs

theorem sound_taken : s.taken.table.Sound := sound_settle hs

/-! ## Faults and rail loss (R113 to R118) -/

theorem sound_faultLease (hl : s.lease? k = some l) (hw : l.state.wait? = none) (he : l.state.ending = false) (f : FaultKind) :
    (s.faultLease k f).table.Sound := by
  unfold faultLease
  simp only [hl]
  rw [table_handPool, table_postLease]
  split
  · rw [table_markRailLost]; exact sound_takeDestination hs hl hw (by simp [he])
  · exact sound_takeDestination hs hl hw (by simp [he])

theorem sound_faultPath (hl : s.lease? k = some l) (hw : l.state.wait? = none) (he : l.state.ending = false) (f : FaultKind) :
    (s.faultPath k f).table.Sound := by
  unfold faultPath
  simp only [hl]
  exact sound_rescanIf (sound_faultLease hs hl hw he f) _

theorem sound_railLossLease (k : Fin 32) : (s.railLossLease k).table.Sound := by
  unfold railLossLease
  split
  · rename_i l hl
    split
    iterate 3
      · rename_i hst
        exact sound_faultLease hs hl (by rw [hst]; rfl) (by rw [hst]; rfl) _
    · rename_i d hst
      rw [table_postLease, table_markRailLost]
      refine sound_takeDestination hs hl (by rw [hst]; rfl) fun he => ?_
      rw [hst] at he
      cases d <;> exact he
    · rwa [table_markRailLost]
    all_goals exact hs
  · exact hs

theorem sound_railLoss (b : Fin 4) : (s.railLoss b).table.Sound := by
  unfold railLoss
  refine sound_rescanIf ?_ _
  rw [table_loseTest]
  refine sound_foldl (fun s k hs => sound_railLossLease hs k) _ ?_
  rwa [table_raiseLevel, table_zeroCodes, table_moveBank]

/-! ## The self-test -/

theorem sound_finishTest (b : Fin 4) : (s.finishTest b).table.Sound := by
  unfold finishTest
  refine sound_rescan ?_
  rw [table_postEdge, table_moveBank]
  exact hs

theorem sound_abortTest (t : TestRecord) : (s.abortTest t).table.Sound :=
  sound_finishTest (by rwa [table_freeTesting, table_stopCellUnderTest]) _

theorem sound_railUpNotice (b : Fin 4) : (s.railUpNotice b).table.Sound := by
  unfold railUpNotice
  split
  · split
    · split
      · exact sound_abortTest hs _
      · split
        · rwa [table_startTestStep]
        · exact sound_finishTest hs b
    · exact hs
  · exact hs

theorem sound_startTest (b : Fin 4) (o : TestOption) : (s.startTest b o).table.Sound := by
  have htesting (cs : List (Fin 24)) :
      (cs.foldl (fun s c => s.setCell c { s.cell c with state := .testing }) s).table = s.table := foldl_table (by simp) ..
  unfold startTest
  simp only
  split
  · refine sound_railUpNotice ?_ b
    exact sound_of_table (htesting _) hs
  · exact sound_of_table (htesting _) hs

theorem sound_endCellTest (t : TestRecord) (c : Fin 24) (st : CellState) (r : TestResult) : (s.endCellTest t c st r).table.Sound := by
  unfold endCellTest
  simp only
  split
  · rwa [table_startTestStep, table_setCell, table_zeroCode]
  · exact sound_finishTest (by rwa [table_setCell, table_zeroCode]) _

theorem sound_completeTestStep (n : Nat) : (s.completeTestStep n).table.Sound := by
  unfold completeTestStep
  split
  · split
    · split
      · split
        · rwa [table_startTestStep]
        · exact sound_endCellTest hs ..
      · exact sound_endCellTest hs ..
    · exact hs
  · exact hs

/-! ## The rails (R37 to R41) -/

theorem sound_railGoodRise (b : Fin 4) : (s.railGoodRise b).table.Sound := by
  unfold railGoodRise
  simp only
  split
  · rwa [table_enterOn, table_setRailGood]
  · exact sound_railUpNotice (by rwa [table_moveBank, table_setRailGood]) b
  all_goals rwa [table_setRailGood]

theorem sound_railGoodFall (b : Fin 4) : (s.railGoodFall b).table.Sound := by
  unfold railGoodFall
  simp only
  split
  iterate 3 exact sound_railLoss (by rwa [table_setRailGood]) b
  all_goals rwa [table_setRailGood]

theorem sound_wakeTimeout (b : Fin 4) : (s.wakeTimeout b).table.Sound := by
  unfold wakeTimeout
  split
  iterate 2 exact sound_railLoss hs b
  all_goals exact hs

theorem sound_lingerExpiry (b : Fin 4) : (s.lingerExpiry b).table.Sound := by
  unfold lingerExpiry
  split
  · exact hs
  · split
    · split <;> exact hs
    · exact hs

theorem sound_lingerSecond (b : Fin 4) : (s.lingerSecond b).table.Sound := by
  unfold lingerSecond
  split
  · exact hs
  · split
    · exact hs
    · exact sound_lingerExpiry hs b
    · exact hs

/-! ## Notices, timers and lapses -/

theorem sound_bankOnLease (b : Fin 4) (k : Fin 32) : (s.bankOnLease b k).table.Sound := by
  unfold bankOnLease
  split
  · rename_i l hl
    split
    · rename_i h
      obtain ⟨hst, -⟩ := h
      rw [table_startTargetRamp, table_claimToDriving]
      exact sound_move hs hl (by rw [hst]; rfl) rfl (by rw [hst]; nofun)
    · exact hs
  · exact hs

theorem sound_takeBankOn (b : Fin 4) : (s.takeBankOn b).table.Sound := by
  unfold takeBankOn
  split
  · exact sound_foldl (fun s k hs => sound_bankOnLease hs b k) _ hs
  · exact hs

/-- The last second of a duration takes the lease toward CLOSED (R79). -/
theorem sound_durationExpiry (k : Fin 32) : (s.durationExpiry k).table.Sound := by
  unfold durationExpiry
  split
  · exact hs
  · split
    · rename_i l hl
      split
      · rename_i d hst _
        split
        · rw [table_enterRampdown (l := { l with duration := some { d with remaining := 0 } })
            (by rw [lease_putLease, if_pos rfl]), table_putLease, Table.put_put]
          refine hs.put (cores_eq hl) rfl ⟨fun h => absurd rfl h, fun h => ?_⟩
            ⟨(hs.records k _ (cores_eq hl)).1, fun _ _ _ => rfl⟩
          exact absurd (congrArg LeaseState.wait? hst) h
        · exact hs
      · exact hs
    · exact hs

theorem sound_durationSecond (k : Fin 32) : (s.durationSecond k).table.Sound := by
  unfold durationSecond
  split
  · exact hs
  · split
    · rename_i l hl
      split
      · rename_i strike part d hst hd
        split
        · exact sound_durationExpiry hs k
        · rw [table_putLease]
          refine hs.put (cores_eq hl) rfl ?_ ⟨(hs.records k _ (cores_eq hl)).1, ?_⟩
          · exact ⟨fun h => absurd rfl h, fun h => absurd (congrArg LeaseState.wait? hst) h⟩
          · rintro e he hr
            cases he
            exact absurd hr (by simp only; omega)
      · exact hs
    · exact hs

/-- A wait that goes on (R64). -/
theorem sound_wait (hl : s.lease? k = some l) {n u : Nat} (hst : l.state = .waiting n u) (m : Nat) :
    (s.putLease k { l with state := .waiting m 0 }).table.Sound := by
  rw [table_putLease]
  refine hs.put (cores_eq hl) rfl ?_ ⟨(hs.records k _ (cores_eq hl)).1, fun d hd hr => ?_⟩
  · change LeaseState.wait? (.waiting m 0) ≠ none ↔ l.state.wait? ≠ none
    rw [hst]
    exact ⟨fun _ => nofun, fun _ => nofun⟩
  · have hend := ending_of_remaining hs hl hd hr
    rw [hst] at hend
    exact absurd hend Bool.false_ne_true

theorem sound_waitTimerExpiry (k : Fin 32) : (s.waitTimerExpiry k).table.Sound := by
  unfold waitTimerExpiry
  split
  · exact hs
  · split
    · rename_i l hl
      split
      · rename_i u hst
        exact sound_wait hs hl hst 0
      · exact hs
    · exact hs

theorem sound_waitSecond (k : Fin 32) : (s.waitSecond k).table.Sound := by
  unfold waitSecond
  split
  · exact hs
  · split
    · rename_i l hl
      split
      · rename_i n u hst
        exact sound_wait hs hl hst (n + 1)
      · exact sound_waitTimerExpiry hs k
      · exact hs
    · exact hs

theorem sound_takeWaitExpiry (h : Handle) : (s.takeWaitExpiry h).table.Sound := by
  unfold takeWaitExpiry
  split
  · simp only
    split
    · split
      · rw [table_postLease]
        refine sound_closeWaiting ?_ _ _
        exact hs
      · exact hs
    · exact hs
  · exact hs

theorem sound_keepaliveExpiry (x : Seat) : (s.keepaliveExpiry x).table.Sound := by
  unfold keepaliveExpiry
  split
  · exact hs
  · split
    · split
      · exact sound_of_table ((table_raiseLevel ..).trans (table_setSeat rfl)) hs
      · exact hs
    · exact hs

theorem sound_keepaliveSecond (x : Seat) : (s.keepaliveSecond x).table.Sound := by
  unfold keepaliveSecond
  split
  · exact hs
  · split
    · exact sound_of_table (table_setSeat rfl) hs
    · exact sound_keepaliveExpiry hs x
    · exact hs

theorem sound_lapseLease (p : LapsePolicy) (k : Fin 32) : (s.lapseLease p k).table.Sound := by
  unfold lapseLease
  split
  · rename_i l hl
    split
    · rename_i d hd
      obtain ⟨hw, he⟩ := of_atOnce hd
      rw [table_postLease]
      exact sound_takeDestination hs hl hw (by simp [he])
    · split
      · rw [table_postLease]
        exact sound_closeWaiting hs k _
      iterate 3
        · rename_i hst _
          exact sound_enterRampdown hs hl (by rw [hst]; rfl) fun _ => rfl
      · rename_i hst _
        exact sound_move hs hl (by rw [hst]; rfl) rfl fun _ => rfl
      · exact hs
  · exact hs

theorem sound_carryOutLapse (n : LapseNotice) : (s.carryOutLapse n).table.Sound :=
  sound_rescanIf (sound_foldl (fun _ k hs => sound_lapseLease hs n.policy k) _ hs) _

theorem sound_takeLapseNotice (x : Seat) : (s.takeLapseNotice x).table.Sound := by
  unfold takeLapseNotice
  split
  · refine sound_carryOutLapse ?_ _
    exact hs
  · exact hs

/-! ## Results (R106 to R111) -/

theorem sound_completeConversion (m : Samples) : (s.completeConversion m).table.Sound := by
  unfold completeConversion
  split
  · split
    · simp only
      rw [table_reconsider]
      split
      · rw [table_startDwell]; exact hs
      · exact hs
    · exact hs
  · exact hs

theorem sound_dwellElapses : s.dwellElapses.table.Sound := by
  unfold dwellElapses
  split
  · rwa [table_reconsider, table_makeVisitDue]
  · exact hs

/-- A measurement stored in a record (R107, R108). -/
theorem sound_measured (hl : s.lease? k = some l) (m : Option Measurement) :
    (s.putLease k { l with lastMeasurement := m }).table.Sound :=
  sound_of_table (table_putLease_of_core hl rfl) hs

theorem sound_applyVerify (hl : s.lease? k = some l) (hst : l.state = .verifying) (r : Result) :
    (s.applyVerify k l r).table.Sound := by
  have h1 := sound_measured hs hl (some ⟨r.current, r.voltage⟩)
  have hl1 := s.lease_putLease k k { l with lastMeasurement := some ⟨r.current, r.voltage⟩ }
  rw [if_pos rfl] at hl1
  have hw : l.state.wait? = none := by rw [hst]; rfl
  have he : l.state.ending = false := by rw [hst]; rfl
  unfold applyVerify
  simp only
  split
  · exact sound_faultPath h1 hl1 hw he _
  · split
    · exact sound_faultPath h1 hl1 hw he _
    · unfold enterActive
      simp only [hl1]
      rw [table_reconsider, table_postLease]
      exact sound_move h1 hl1 hw rfl (by simp [he])

/-- A trim step stays within -64 to 63, or is a fault (R110). -/
theorem sound_trimStep (hl : s.lease? k = some l) (hw : l.state.wait? = none) (he : l.state.ending = false) (n : Nat) :
    (s.trimStep k n).table.Sound := by
  unfold trimStep
  simp only [hl]
  split
  · exact hs
  · split
    · rename_i a ha
      split
      · exact hs
      · split
        · exact sound_faultPath hs hl hw he _
        · rename_i hb
          have hput : (s.putLease k { l with alloc := some { a with trim := wantedTrim l a.trim n } }).table.Sound := by
            rw [table_putLease]
            refine hs.put (cores_eq hl) rfl Iff.rfl ⟨fun t ht => ?_, (hs.records k _ (cores_eq hl)).2⟩
            cases ht
            simp only
            omega
          split
          · rwa [table_writeCode]
          · exact hput
    · exact hs

theorem sound_judgeScan (hl : s.lease? k = some l) (r : Result) : (s.judgeScan k l r).table.Sound := by
  unfold judgeScan
  split
  · rename_i strike part hst
    have hw : l.state.wait? = none := by rw [hst]; rfl
    have he : l.state.ending = false := by rw [hst]; rfl
    have hl1 (m : Lease) : (s.putLease k m).lease? k = some m := by rw [lease_putLease, if_pos rfl]
    have hmove (b : Bool) (m : Measurement) :
        (s.putLease k { l with lastMeasurement := some m, state := .active b part }).table.Sound := by
      rw [table_putLease]
      exact hs.move (cores_eq hl) hw rfl (fun h => absurd (he.symm.trans h) Bool.false_ne_true)
    simp only
    split
    · split
      · exact sound_faultPath (sound_measured hs hl (some ⟨r.current, r.voltage⟩)) (hl1 _) hw he _
      · exact hmove true _
    · exact sound_trimStep (hmove false _) (hl1 _) rfl rfl _
  · exact hs

theorem sound_deliverResult : s.deliverResult.table.Sound := by
  unfold deliverResult
  split
  · rename_i r rest _
    simp only
    split
    · rename_i k l ha
      obtain ⟨hl, hst⟩ := of_applicable ha
      split
      · rename_i hsrc
        refine sound_applyVerify ?_ hl ?_ r
        · exact hs
        · rw [hsrc] at hst
          unfold stampedState at hst
          split at hst <;> simp_all
      · rw [table_handPool]
        refine sound_judgeScan ?_ hl r
        exact hs
    · exact hs
  · exact hs

theorem sound_takeFaultNotice : s.takeFaultNotice.table.Sound := by
  unfold takeFaultNotice
  split
  · rw [table_matchNotice]; exact hs
  · exact hs

theorem sound_takeScanResult : s.takeScanResult.table.Sound := by
  unfold takeScanResult
  split
  · split
    · exact hs
    · rw [table_matchNotice]; exact hs
  · exact hs

end

end State

end Sys2Proof.Machine
end


section
/-! PROOFS. The requests, the port, the clock and the resets keep the lease table sound, so every step does. -/

namespace Sys2Proof.Machine

open State

/-! ## Requests in common -/

theorem sound_respond {s : State} {i : Instr} {x : Seat} {st : Status} {p : List Byte} (hs : s.table.Sound) :
    (s.respond i x st p).table.Sound := hs

/-- The body of a request keeps the table sound. -/
def KeepsTable (body : State → Reply) : Prop := ∀ s : State, s.table.Sound → (body s).state.table.Sound

theorem sound_request {i : Instr} {x : Seat} {c : RequestClass} {p : List Byte} {body : State → Reply} {s t : State}
    (hb : KeepsTable body) (hs : s.table.Sound) (h : request i x c p body s = .next t) : t.table.Sound := by
  obtain rfl | ⟨st, rfl⟩ | rfl := request_cases h
  · exact hs
  · exact sound_respond (sound_taken hs)
  · exact sound_respond (hb _ (sound_taken hs))

/-- A request on a handle's record keeps the table sound when what it does to the record does. -/
theorem keepsTable_withRecord {x : Seat} {h : Handle} {f : State → Fin 32 → Lease → Reply}
    (hf : ∀ s k l, s.table.Sound → s.lease? k = some l → (f s k l).state.table.Sound) :
    KeepsTable fun s => withRecord x h s (f s) := by
  intro s hs
  simp only [withRecord]
  split
  · exact hs
  · rename_i k l hr
    split
    · exact hs
    · exact hf s k l hs (resolve_eq_some.1 hr).2.2

/-! ## Requests on a lease -/

section
variable {s : State} {k : Fin 32} {l : Lease} (hs : s.table.Sound) (hl : s.lease? k = some l)
include hs hl

theorem sound_stopByRequest (x : Seat) (hw : l.state.wait? = none) {d : Destination} (he : l.state.ending = true → d.isClosed = true) :
    (s.stopByRequest x k l d).table.Sound := by
  unfold stopByRequest
  simp only
  refine sound_rescanIf ?_ _
  split
  · exact sound_takeDestination hs hl hw he
  · rw [table_postLease]
    exact sound_takeDestination hs hl hw he

omit hl in
theorem sound_closeWaitingByRequest (x : Seat) (why : EndReason) : (s.closeWaitingByRequest x k l why).table.Sound := by
  unfold closeWaitingByRequest
  simp only
  split
  · exact sound_closeWaiting hs k why
  · rw [table_postLease]
    exact sound_closeWaiting hs k why

theorem sound_suspendLease (x : Seat) : (suspendLease x k l s).state.table.Sound := by
  unfold suspendLease
  split
  · rename_i hst
    exact sound_stopByRequest hs hl x (by rw [hst]; rfl) (by rw [hst]; nofun)
  iterate 3
    · rename_i hst
      exact sound_enterRampdown hs hl (by rw [hst]; rfl) (by rw [hst]; nofun)
  all_goals exact hs

theorem sound_enterStarting (hw : l.state.wait? = none) (he : l.state.ending = false) : (s.enterStarting k).table.Sound := by
  cases ha : l.alloc with
  | none => simpa [enterStarting, hl, ha] using hs
  | some a =>
    obtain ⟨p, hp⟩ := table_enterStarting hl ha
    rw [hp]
    exact hs.move (cores_eq hl) hw rfl fun h => absurd (he.symm.trans h) Bool.false_ne_true

theorem sound_resumeLease : (resumeLease k l s).state.table.Sound := by
  unfold resumeLease
  split
  · rename_i hst
    split
    · exact hs
    · split
      · exact hs
      · exact sound_enterStarting hs hl (by rw [hst]; rfl) (by rw [hst]; rfl)
  · rename_i hst
    split
    · exact hs
    · rw [accept_state, table_startTargetRamp]
      exact sound_move hs hl (by rw [hst]; rfl) rfl (by rw [hst]; nofun)
  all_goals exact hs

theorem sound_cancelLease (x : Seat) : (cancelLease x k l s).state.table.Sound := by
  unfold cancelLease
  split
  · exact sound_closeWaitingByRequest hs x _
  · rename_i hst
    exact sound_stopByRequest hs hl x (by rw [hst]; rfl) fun _ => rfl
  · rename_i hst
    exact sound_stopByRequest hs hl x (by rw [hst]; rfl) fun _ => rfl
  iterate 3
    · rename_i hst
      exact sound_enterRampdown hs hl (by rw [hst]; rfl) fun _ => rfl
  · rename_i hst
    exact sound_move hs hl (by rw [hst]; rfl) rfl fun _ => rfl
  all_goals exact hs

theorem sound_purgeLease (x : Seat) : (purgeLease x k l s).state.table.Sound := by
  have hstop (hw : l.state.wait? = none) : (s.stopByRequest x k l (.closed .purged)).table.Sound :=
    sound_stopByRequest hs hl x hw fun _ => rfl
  unfold purgeLease
  split
  · exact hs
  · exact sound_closeWaitingByRequest hs x _
  all_goals
    rename_i hst
    exact hstop (by rw [hst]; rfl)

/-- RELEASE empties the slot of a CLOSED record, which does not wait (R6). -/
theorem sound_releaseLease : (releaseLease k l s).state.table.Sound := by
  unfold releaseLease
  split
  · rename_i hst
    have htable : (s.emptySlot k).table = s.table.clear k := by
      have hcores (j : Fin 32) : ((s.emptySlot k).lease? j).map Lease.core = (s.table.clear k).cores j := by
        rw [emptySlot, lease_setSlot, Table.cores_clear]
        by_cases hj : k = j
        · simp [hj]
        · simp [hj, Ne.symm hj, table]
      simp only [table, hcores]
      rfl
    rw [accept_state, htable]
    refine hs.clear fun c hc => ?_
    rw [cores_eq hl] at hc
    cases hc
    exact congrArg LeaseState.wait? hst
  all_goals exact hs

theorem sound_readRecord (x : Seat) : (s.readRecord x k l).state.table.Sound := by
  unfold readRecord
  simp only
  split
  · exact sound_of_table (table_putLease_of_core hl rfl) hs
  · exact hs

/-! ## ADJUST -/

/-- A record with a longer duration, or the one it had, is as sound as before. -/
theorem sound_duration {d : Option Duration} (hd : ∀ e ∈ d, ∃ e0 ∈ l.duration, e0.remaining ≤ e.remaining) {trim : Option Int}
    (ht : trim = l.core.trim ∨ trim = some 0) : (s.table.put k { l.core with duration := d, trim := trim }).Sound := by
  have hrec := hs.records k _ (cores_eq hl)
  refine hs.put (cores_eq hl) rfl Iff.rfl ⟨fun n hn => ?_, fun e he hr => ?_⟩
  · obtain rfl | rfl := ht
    · exact hrec.1 n hn
    · cases hn
      omega
  · obtain ⟨e0, he0, hle⟩ := hd e he
    exact hrec.2 e0 he0 (by omega)

omit hs hl in
/-- An extension never shortens a duration (R68, R91). -/
theorem remaining_extended {extend : Option Duration → Nat → Option Duration}
    (h : ∀ d n e, extend d n = some e → ∃ e0 ∈ d, e0.remaining ≤ e.remaining) {d d' : Option Duration} {n : Option Nat}
    (hd : extended extend d n = some d') : ∀ e ∈ d', ∃ e0 ∈ d, e0.remaining ≤ e.remaining := by
  unfold extended at hd
  split at hd
  · cases hd
    exact fun e he => ⟨e, he, le_rfl⟩
  · rename_i m
    obtain ⟨f, hf, rfl⟩ := Option.map_eq_some_iff.1 hd
    rintro e ⟨⟩
    exact h d m f hf

omit hs hl in
theorem remaining_extendWaiting (d : Option Duration) (n : Nat) (e : Duration) (h : Duration.extendWaiting d n = some e) :
    ∃ e0 ∈ d, e0.remaining ≤ e.remaining := by
  unfold Duration.extendWaiting at h
  split at h
  · split at h
    · cases h
    · cases h
      exact ⟨_, rfl, Nat.le_add_right ..⟩
  · cases h

omit hs hl in
theorem remaining_extendRunning (d : Option Duration) (n : Nat) (e : Duration) (h : Duration.extendRunning d n = some e) :
    ∃ e0 ∈ d, e0.remaining ≤ e.remaining := by
  unfold Duration.extendRunning at h
  split at h
  · split at h
    · cases h
    · cases h
      exact ⟨_, rfl, Nat.le_add_right ..⟩
  · cases h

theorem sound_adjustWaiting (p : AdjustParams) : (adjustWaiting p k l s).state.table.Sound := by
  unfold adjustWaiting
  split
  · exact hs
  · simp only
    split
    · exact hs
    · split
      · exact hs
      · rename_i hd
        rw [accept_state, table_putLease]
        exact sound_duration hs hl (remaining_extended remaining_extendWaiting hd) (.inl rfl)

theorem sound_retarget {d : Option Duration} (hd : ∀ e ∈ d, ∃ e0 ∈ l.duration, e0.remaining ≤ e.remaining) (a : Allocation) (n : Nat) :
    (s.retarget k { l with duration := d } a n).table.Sound := by
  rw [retarget_eq, table_putLease, table_setCommitted, table_allotCells]
  exact sound_duration hs hl hd (.inr rfl)

theorem sound_adjustHolding (p : AdjustParams) (b : Bool) : (adjustHolding p k l b s).state.table.Sound := by
  unfold adjustHolding
  split
  · exact hs
  · split
    · exact hs
    · rename_i d hd
      have hlonger := remaining_extended remaining_extendRunning hd
      simp only
      split
      · rename_i target a _ _
        split
        · exact hs
        · have hr := sound_retarget hs hl hlonger a target
          split
          · exact sound_rescanIf (by rwa [table_freeLeaving]) _
          · exact sound_rescanIf (by rwa [table_startTargetRamp]) _
      · rw [accept_state, table_putLease]
        exact sound_duration hs hl hlonger (.inl rfl)

theorem sound_adjustLease (p : AdjustParams) : (adjustLease p k l s).state.table.Sound := by
  unfold adjustLease
  split
  · exact sound_adjustWaiting hs hl p
  · exact sound_adjustHolding hs hl p _
  · exact sound_adjustHolding hs hl p _
  all_goals exact hs

end

/-! ## OPEN (R5, R50, R59, R132) -/

/-- The duration of a new record is not 0 (R50). -/
theorem remaining_openRequest {p : OpenParams} {q : OpenRequest} (hq : openRequest? p = some q) (x : Seat) {d : Duration}
    (hd : (q.lease x).duration = some d) : d.remaining ≠ 0 := by
  obtain ⟨⟨-, -, -, -, -, hcount, -⟩, -, he⟩ := openRequest?_eq_some.1 hq
  generalize q.terminal = m at he
  subst he
  simp only [OpenRequest.lease, openAsRead, Option.map_map] at hd
  obtain ⟨n, hn, rfl⟩ := Option.map_eq_some_iff.1 hd
  obtain ⟨hflag, rfl⟩ : p.flags.getLsbD 2 = true ∧ p.durationCount.toNat = n := by
    split at hn
    · rename_i h; exact ⟨h, by simpa using hn⟩
    · cases hn
  have := hcount hflag
  simp only [Function.comp]
  rw [toSeconds_eq]
  split <;> omega

theorem keepsTable_openBody (x : Seat) (p : OpenParams) : KeepsTable (openBody x p) := by
  intro s hs
  unfold openBody
  split
  · exact hs
  · rename_i q hq
    split
    · exact hs
    · rename_i hquota
      split
      · exact hs
      · rename_i k hk
        have hempty : s.table.cores k = none := by simp [table, (emptySlot?_eq_some.1 hk).1]
        have hcount : s.table.count x < s.table.quota x := by
          rw [← recordCount_eq_count]
          exact Nat.not_le.1 hquota
        have hlease (trim : Option Int) (st : LeaseState) (ht : ∀ n ∈ trim, -64 ≤ n ∧ n ≤ 63) :
            Core.Sound { (q.lease x).core with state := st, trim := trim } :=
          ⟨ht, fun d hd hr => absurd hr (remaining_openRequest hq x hd)⟩
        split
        · exact hs
        · split
          · exact hs
          · simp only
            split
            · rename_i b _
              obtain ⟨ph, hph⟩ := s.table_admitTo k (q.lease x) b
              rw [hph]
              exact hs.fill hempty hcount rfl (hlease _ _ (by simp))
            · split
              · exact hs
              · split
                · rename_i hplaces
                  change ((s.putLease k (q.lease x)).table.join k).Sound
                  rw [table_putLease]
                  exact hs.fill_join hempty hcount nofun hplaces (hlease none _ (by simp))
                · exact hs

/-! ## GROUP -/

theorem sound_groupApply {s : State} {k : Fin 32} {l : Lease} (hs : s.table.Sound) (hl : s.lease? k = some l) (a : GroupAction) (x : Seat) :
    (a.apply x k l s).state.table.Sound := by
  cases a with
  | suspend => exact sound_suspendLease hs hl x
  | resume => exact sound_resumeLease hs hl
  | cancel => exact sound_cancelLease hs hl x

theorem sound_groupVisit (x : Seat) (n : Nat) (a : GroupAction) (y : Seat) {g : GroupRun} (hs : g.state.table.Sound) (k : Fin 32) :
    (GroupRun.visit x n a y g k).state.table.Sound := by
  have h1 := sound_settle hs
  unfold GroupRun.visit
  simp only
  split
  · rename_i l hl
    split
    · split
      · exact sound_groupApply h1 hl a x
      · exact h1
    · exact h1
  · exact h1

theorem sound_groupFold (x : Seat) (n : Nat) (a : GroupAction) (y : Seat) (ks : List (Fin 32)) {g : GroupRun} (hs : g.state.table.Sound) :
    (ks.foldl (GroupRun.visit x n a y) g).state.table.Sound := by
  induction ks generalizing g with
  | nil => exact hs
  | cons k ks ih => exact ih (sound_groupVisit x n a y hs k)

theorem keepsTable_groupBody (x : Seat) (tag action seat : Byte) : KeepsTable (groupBody x tag action seat) := by
  intro s hs
  unfold groupBody
  split
  · exact hs
  · rename_i n a y _
    split
    · exact hs
    · have h := sound_groupFold x n a y allSlots (g := ⟨s, 0, 0⟩) hs
      simpa only using h

/-! ## The list walk, TOUCH, EVENTS -/

theorem keepsTable_walkBody (x : Seat) : KeepsTable (walkBody x) := by
  intro s hs
  unfold walkBody
  simp only
  split
  · split
    · rename_i hl
      refine sound_readRecord (sound_of_table (table_setSeat ?_) hs) (by exact hl) x
      rfl
    · exact hs
  · exact sound_of_table (table_setSeat rfl) hs

theorem keepsTable_listFirstBody (x : Seat) (f : Option Byte) : KeepsTable (listFirstBody x f) := by
  intro s hs
  unfold listFirstBody
  split
  · exact hs
  · exact keepsTable_walkBody x _ (sound_of_table (table_setSeat rfl) hs)

theorem keepsTable_touchBody (x : Seat) : KeepsTable (touchBody x) := by
  intro s hs
  unfold touchBody
  split
  · exact hs
  · rwa [accept_state, table_setKeepalive]
  · rwa [accept_state, table_endLevel, table_setKeepalive]

theorem keepsTable_eventsBody (x : Seat) (ack : BitVec 16) (mask : Option (BitVec 16)) : KeepsTable (eventsBody x ack mask) := by
  intro s hs
  unfold eventsBody
  split
  · exact hs
  · simp only
    refine sound_of_table (table_setSeat rfl) ?_
    split
    · exact hs
    · rwa [table_acknowledge]

/-! ## Seats, banks, cells -/

/-- SEAT SET never sets a lease quota below the record count of its seat (R129). -/
theorem quota_of_seatSetRefusal {s : State} {q : SeatSetRequest} (h : s.seatSetRefusal q = none) :
    ∀ n ∈ q.leaseQuota, s.recordCount q.seat ≤ n := by
  unfold seatSetRefusal at h
  simp only at h
  split at h
  · cases h
  · split at h
    · cases h
    · rename_i hquota
      intro n hn
      rw [Option.mem_def.1 hn] at hquota
      simpa using hquota

theorem sound_applySeatSet {s : State} {q : SeatSetRequest} (hs : s.table.Sound) (h : s.seatSetRefusal q = none) :
    (s.applySeatSet q).table.Sound := by
  have hcount : s.table.count q.seat ≤ q.leaseQuota.getD (s.seat q.seat).leaseQuota := by
    rw [← recordCount_eq_count]
    cases hq : q.leaseQuota with
    | none => exact (recordCount_eq_count s q.seat).trans_le (hs.counts q.seat)
    | some n => exact quota_of_seatSetRefusal h n hq
  unfold applySeatSet
  refine sound_rescanIf ?_ _
  split
  · rw [table_clearEvents, table_setSeat_quota]
    exact hs.requote hcount
  · split
    · rw [table_raiseLevel, table_setSeat_quota]
      exact hs.requote hcount
    · rw [table_setSeat_quota]
      exact hs.requote hcount

theorem keepsTable_seatSetBody (p : SeatSetParams) : KeepsTable (seatSetBody p) := by
  intro s hs
  unfold seatSetBody
  split
  · exact hs
  · split
    · exact hs
    · rename_i h
      exact sound_applySeatSet hs h

theorem keepsTable_bankSetBody (p : BankSetParams) : KeepsTable (bankSetBody p) := by
  intro s hs
  unfold bankSetBody
  split
  · exact hs
  · split
    · exact hs
    · refine sound_rescanIf ?_ _
      split
      · rwa [table_endBankFault, table_setBank]
      · exact hs

theorem keepsTable_bankClearBody (b : Byte) : KeepsTable (bankClearBody b) := by
  intro s hs
  unfold bankClearBody
  split
  · exact hs
  · split
    · exact sound_rescan (by rwa [table_endBankFault, table_setBank])
    · exact hs

theorem keepsTable_cellOutBody (c : Byte) : KeepsTable (cellOutBody c) := by
  intro s hs
  unfold cellOutBody
  split
  · exact hs
  · split
    · exact hs
    · split <;> exact hs

theorem keepsTable_cellInBody (c : Byte) : KeepsTable (cellInBody c) := by
  intro s hs
  unfold cellInBody
  split
  · exact hs
  · split
    · exact hs
    · split
      · exact sound_rescan hs
      all_goals exact hs

theorem keepsTable_terminalSetBody (m v : Byte) : KeepsTable (terminalSetBody m v) := by
  intro s hs
  unfold terminalSetBody
  split <;> exact hs

theorem keepsTable_cellQueryBody (b : Byte) : KeepsTable (cellQueryBody b) := by
  intro s hs
  unfold cellQueryBody
  split <;> exact hs

/-! ## Scan, self-test, pool -/

theorem keepsTable_scanSetBody (p : ScanSetParams) : KeepsTable (scanSetBody p) := by
  intro s hs
  unfold scanSetBody
  split <;> exact hs

theorem keepsTable_scanStartBody : KeepsTable scanStartBody := by
  intro s hs
  unfold scanStartBody
  rw [accept_state, table_reconsider, table_makeVisitDue]
  exact hs

theorem keepsTable_cellTestBody (b o : Byte) : KeepsTable (cellTestBody b o) := by
  intro s hs
  unfold cellTestBody
  split
  · exact hs
  · split
    · exact hs
    · exact sound_startTest hs _ _

theorem keepsTable_testAbortBody : KeepsTable testAbortBody := by
  intro s hs
  unfold testAbortBody
  split
  · exact hs
  · split
    · exact sound_abortTest hs _
    · exact hs

theorem keepsTable_holdBody (ack : Option Byte) : KeepsTable (holdBody ack) := by
  intro s hs
  unfold holdBody
  split
  · exact hs
  · exact sound_of_table (s.table_enterHold .request) hs

theorem keepsTable_runBody : KeepsTable runBody := by
  intro s hs
  unfold runBody
  split
  · refine sound_rescan ?_
    rw [table_endHold]
    exact hs
  · exact hs

theorem keepsTable_tripSetBody (p : TripSetParams) : KeepsTable (tripSetBody p) := by
  intro s hs
  unfold tripSetBody
  split <;> exact hs

theorem keepsTable_tripFireBody (n : Byte) : KeepsTable (tripFireBody n) := by
  intro s hs
  unfold tripFireBody
  split
  · exact hs
  · rwa [accept_state, table_fireTrip]

/-- An empty lease table with an empty wait list is sound. -/
theorem sound_of_empty {s : State} (hk : ∀ k, s.lease? k = none) (hw : s.allocator.waitList = []) : s.table.Sound := by
  rw [← leaseTableSound_iff]
  refine ⟨⟨by simp [hw], by simp [hw], fun k => by simp [hw, hk]⟩, fun k l hl => ?_, fun x => ?_⟩
  · rw [hk] at hl
    cases hl
  · rw [recordCount_of_empty hk]
    exact Nat.zero_le _

/-- RESTART leaves no record and an empty wait list (R170). -/
theorem sound_restarted (s : State) : s.restarted.table.Sound :=
  sound_of_empty (fun k => by simp [lease?, Slot.restarted]) rfl

/-! ## The port -/

theorem table_judgeWrite (s : State) (x : Seat) (bs : List Byte) : (s.judgeWrite x bs).table = s.table := by
  unfold judgeWrite
  split
  · rfl
  · rfl
  · simp only
    repeat' split
    all_goals rfl

theorem table_endWrite (s : State) : s.endWrite.table = s.table := by
  unfold endWrite
  split
  · rfl
  · exact table_judgeWrite ..

theorem table_writeAddress (s : State) (a : BitVec 7) : (s.writeAddress a).table = s.table := by
  unfold writeAddress
  simp only
  repeat' split
  all_goals exact (table_endWrite s)

theorem table_writeByte (s : State) (b : Byte) : (s.writeByte b).table = s.table := by
  unfold writeByte
  split <;> rfl

theorem table_readPage (s : State) (a : BitVec 7) (n : Nat) : (s.readPage a n).table = s.table := by
  unfold readPage
  simp only
  repeat' split
  all_goals exact (table_endWrite s)

/-! ## The clock -/

/-- A record with its part-seconds counted on. -/
def Core.counted (c : Core) (part : Nat → Nat) : Core :=
  { c with
    state := match c.state, c.duration with
      | .active strike u, some _ => .active strike (part u)
      | .waiting n u, _ => .waiting n (part u)
      | st, _ => st }

theorem wait?_counted (c : Core) (part : Nat → Nat) : (c.counted part).state.wait? = c.state.wait? := by
  obtain ⟨owner, st, d, m⟩ := c
  cases st with
  | active => cases d <;> rfl
  | _ => rfl

theorem ending_counted (c : Core) (part : Nat → Nat) : (c.counted part).state.ending = c.state.ending := by
  obtain ⟨owner, st, d, m⟩ := c
  cases st with
  | active => cases d <;> rfl
  | _ => rfl

theorem table_clockTick (s : State) :
    s.clockTick.table = { s.table with
      cores := fun k => (s.table.cores k).map fun c => c.counted fun u => if s.held then u else u + 1 } := by
  have hlease (k : Fin 32) : s.clockTick.lease? k = (s.lease? k).map s.tickLease := by simp [clockTick, lease?, slot]
  have hseat (x : Seat) : (s.clockTick.seat x).leaseQuota = (s.seat x).leaseQuota := by simp [clockTick, seat]
  simp only [table, hlease, hseat, Option.map_map]
  rfl

theorem sound_clockTick {s : State} (hs : s.table.Sound) : s.clockTick.table.Sound := by
  rw [table_clockTick]
  refine ⟨hs.nodup, hs.places, fun k => ?_, fun k c hc => ?_, fun x => ?_⟩
  · simpa [wait?_counted] using hs.waiting k
  · obtain ⟨c, hk, rfl⟩ := Option.map_eq_some_iff.1 hc
    obtain ⟨htrim, hrem⟩ := hs.records k c hk
    exact ⟨htrim, fun d hd hr => (ending_counted c _).trans (hrem d hd hr)⟩
  · refine le_of_eq_of_le (congrArg (List.countP · allSlots) (funext fun k => ?_)) (hs.counts x)
    exact Option.any_map ..

/-! ## Every step -/

/-- An event of the device keeps the table sound when its act does. -/
theorem sound_event {act : State → State} {s t : State} (ha : ∀ s : State, s.table.Sound → (act s).table.Sound) (hs : s.table.Sound)
    (h : event act s = .next t) : t.table.Sound := by
  cases h
  exact ha _ (sound_settle hs)

theorem exec_keeps_table {i : Instr} {s t : State} (hs : s.table.Sound) (h : exec i s = .next t) : t.table.Sound := by
  cases i
  case openLease x p => exact sound_request (keepsTable_openBody x p) hs h
  case adjust x p => exact sound_request (keepsTable_withRecord fun s k l hs hl => sound_adjustLease hs hl p) hs h
  case suspend x g => exact sound_request (keepsTable_withRecord fun s k l hs hl => sound_suspendLease hs hl x) hs h
  case resume x g => exact sound_request (keepsTable_withRecord fun s k l hs hl => sound_resumeLease hs hl) hs h
  case cancel x g => exact sound_request (keepsTable_withRecord fun s k l hs hl => sound_cancelLease hs hl x) hs h
  case release x g => exact sound_request (keepsTable_withRecord fun s k l hs hl => sound_releaseLease hs hl) hs h
  case query x g => exact sound_request (keepsTable_withRecord fun s k l hs hl => sound_readRecord hs hl x) hs h
  case purge x g => exact sound_request (keepsTable_withRecord fun s k l hs hl => sound_purgeLease hs hl x) hs h
  case listFirst x f => exact sound_request (keepsTable_listFirstBody x f) hs h
  case listNext x => exact sound_request (keepsTable_walkBody x) hs h
  case group x n a y => exact sound_request (keepsTable_groupBody x n a y) hs h
  case touch x => exact sound_request (keepsTable_touchBody x) hs h
  case events x a m => exact sound_request (keepsTable_eventsBody x a m) hs h
  case status x => exact sound_request (body := fun s => ⟨s, .ok, s.statusPayload⟩) (fun s hs => hs) hs h
  case seatSet x p => exact sound_request (keepsTable_seatSetBody p) hs h
  case bankSet x p => exact sound_request (keepsTable_bankSetBody p) hs h
  case bankClear x b => exact sound_request (keepsTable_bankClearBody b) hs h
  case scanSet x p => exact sound_request (keepsTable_scanSetBody p) hs h
  case scanStart x => exact sound_request keepsTable_scanStartBody hs h
  case scanStop x => exact sound_request (body := scanStopBody) (fun s hs => hs) hs h
  case cellTest x b o => exact sound_request (keepsTable_cellTestBody b o) hs h
  case testAbort x => exact sound_request keepsTable_testAbortBody hs h
  case cellOut x c => exact sound_request (keepsTable_cellOutBody c) hs h
  case cellIn x c => exact sound_request (keepsTable_cellInBody c) hs h
  case terminalSet x m v => exact sound_request (keepsTable_terminalSetBody m v) hs h
  case hold x a => exact sound_request (keepsTable_holdBody a) hs h
  case run x => exact sound_request keepsTable_runBody hs h
  case tripSet x p => exact sound_request (keepsTable_tripSetBody p) hs h
  case tripFire x n => exact sound_request (keepsTable_tripFireBody n) hs h
  case restart x => exact sound_request (body := fun s => accept s.restarted) (fun s _ => sound_restarted s) hs h
  case cellQuery x b => exact sound_request (keepsTable_cellQueryBody b) hs h
  case writeAddress a => cases h; exact sound_of_table (table_writeAddress s a) hs
  case writeEnd => cases h; exact sound_of_table (table_endWrite s) hs
  case writeByteReceived b => cases h; exact sound_of_table (table_writeByte s b) hs
  case readPage a n => cases h; exact sound_of_table (table_readPage s a n) hs
  case resetHeldLow => cases h; exact hs
  case powerOnReset st => cases h; rw [deviceReset_eq]; exact sound_of_empty (fun k => lease_afterReset _ _ _ k) rfl
  case pinReset st => cases h; rw [deviceReset_eq]; exact sound_of_empty (fun k => lease_afterReset _ _ _ k) rfl
  case rampStep k => cases h; exact sound_of_table (s.table_rampStep k) hs
  case rampComplete k => cases h; exact sound_completeRamp hs k
  case railGoodRise b => exact sound_event (fun s hs => sound_railGoodRise hs b) hs h
  case railGoodFall b => exact sound_event (fun s hs => sound_railGoodFall hs b) hs h
  case wakeTimeout b => exact sound_event (fun s hs => sound_wakeTimeout hs b) hs h
  case lingerExpiry b => exact sound_event (fun s hs => sound_lingerExpiry hs b) hs h
  case lingerSecond b => exact sound_event (fun s hs => sound_lingerSecond hs b) hs h
  case bankOnNotice b => exact sound_event (fun s hs => sound_takeBankOn hs b) hs h
  case durationExpiry k => exact sound_event (fun s hs => sound_durationExpiry hs k) hs h
  case durationSecond k => exact sound_event (fun s hs => sound_durationSecond hs k) hs h
  case waitTimerExpiry k => exact sound_event (fun s hs => sound_waitTimerExpiry hs k) hs h
  case waitSecond k => exact sound_event (fun s hs => sound_waitSecond hs k) hs h
  case waitExpiryNotice g => exact sound_event (fun s hs => sound_takeWaitExpiry hs g) hs h
  case keepaliveExpiry x => exact sound_event (fun s hs => sound_keepaliveExpiry hs x) hs h
  case keepaliveSecond x => exact sound_event (fun s hs => sound_keepaliveSecond hs x) hs h
  case lapseNotice x => exact sound_event (fun s hs => sound_takeLapseNotice hs x) hs h
  case conversionComplete m => exact sound_event (fun s hs => sound_completeConversion hs m) hs h
  case dwellElapses => exact sound_event (fun s hs => sound_dwellElapses hs) hs h
  case resultDelivery => exact sound_event (fun s hs => sound_deliverResult hs) hs h
  case faultNotice => exact sound_event (fun s hs => sound_takeFaultNotice hs) hs h
  case scanResultMatch => exact sound_event (fun s hs => sound_takeScanResult hs) hs h
  case testStepComplete n => exact sound_event (fun s hs => sound_completeTestStep hs _) hs h

/-- Settles O30: every command keeps the table sound, and so does the idle device. -/
theorem stepKeepsLeaseTableSound : Obligations.StepKeepsLeaseTableSound := by
  unfold Obligations.StepKeepsLeaseTableSound
  intro s t hs h
  rw [leaseTableSound_iff] at hs ⊢
  unfold step at h
  split at h
  · refine exec_keeps_table ?_ h
    exact hs
  · cases h
    unfold idle
    split
    · exact hs
    · exact sound_clockTick hs

end Sys2Proof.Machine
end


section
/-! PROOFS. The admission attempt and the rescan of the wait list (R53 to R63). -/

namespace Sys2Proof.Machine

open State

/-! ## The admission attempt (R53 to R56) -/

/-- The first index that meets a condition is the lowest one. -/
theorem find?_finRange {n : Nat} {f : Fin n → Bool} {k : Fin n} :
    (List.finRange n).find? f = some k ↔ f k = true ∧ ∀ j, j < k → f j = false := by
  rw [List.find?_eq_some_iff_getElem]
  simp only [List.getElem_finRange, List.length_finRange, Bool.not_eq_true']
  refine and_congr_right fun _ => ⟨?_, fun h => ⟨k.val, k.isLt, rfl, fun j hj => h _ hj⟩⟩
  rintro ⟨i, hi, rfl, h⟩ j hj
  exact h j.val hj

/-- An allotted cell count is a count of cells (R53). -/
theorem allottedCount_eq (s : State) (x : Seat) :
    s.allottedCount x = (List.finRange 24).countP fun c =>
      ((s.cell c).state.holder?.bind s.resolve).any fun kl => decide (kl.2.owner = x) := by
  rw [allottedCount, ← List.countP_eq_length_filter]
  rfl

/-- A bank whose state, rail and cells serve a lease (R54). -/
def Serves (s : State) (l : Lease) (b : Fin 4) : Prop :=
  (s.bank b).state.preference ≠ none ∧ l.compliance + 1000 ≤ (s.bank b).rail ∧ admissionCells l.target ≤ (s.freeIn b).length

/-- An eligible bank: it serves the lease within its budget (R54). -/
def Fits (s : State) (l : Lease) (b : Fin 4) : Prop :=
  Serves s l b ∧ s.committed b + chargeOf l.target (s.bank b).rail ≤ (s.bank b).budget

/-- The class of a bank's state, the best one first (R55). -/
def bankRank (s : State) (b : Fin 4) : Nat := (s.bank b).state.preference.getD 4

/-- The bank of the best class, and among those the one of the lowest number (R55). -/
def Best (s : State) (l : Lease) (b : Fin 4) : Prop :=
  Fits s l b ∧ ∀ c, Fits s l c → bankRank s b < bankRank s c ∨ (bankRank s b = bankRank s c ∧ b ≤ c)

section
variable {s : State} {l : Lease} {b : Fin 4}

theorem candidate_iff : s.candidate l b = true ↔ Serves s l b := by
  simp [candidate, Serves, railServes, Option.isSome_iff_ne_none, and_assoc]

theorem fits_iff : (s.candidate l b && s.budgetServes l b) = true ↔ Fits s l b := by
  rw [Bool.and_eq_true, candidate_iff, budgetServes, decide_eq_true_iff, Fits]

/-- A class is one of four (R55). -/
theorem preference_mem {st : BankState} {n : Nat} (h : st.preference = some n) : n ∈ [0, 1, 2, 3] := by
  unfold BankState.preference at h
  split at h <;> cases h <;> decide

/-- The lowest bank of a class that fits. -/
theorem find?_class (n : Nat) :
    (allBanks.find? fun b => (s.bank b).state.preference == some n && s.candidate l b && s.budgetServes l b) = some b ↔
      ((s.bank b).state.preference = some n ∧ Fits s l b) ∧ ∀ c, c < b → (s.bank c).state.preference = some n → ¬Fits s l c := by
  rw [allBanks, find?_finRange]
  simp only [Bool.and_assoc, Bool.and_eq_true (_ == _), fits_iff, beq_iff_eq, ← Bool.not_eq_true, not_and]

theorem find?_class_eq_none {n : Nat}
    (h : (allBanks.find? fun b => (s.bank b).state.preference == some n && s.candidate l b && s.budgetServes l b) = none)
    (hb : (s.bank b).state.preference = some n) : ¬Fits s l b := by
  intro hf
  have := List.find?_eq_none.1 h b (List.mem_finRange b)
  rw [Bool.and_assoc, fits_iff.2 hf, hb] at this
  simp at this

theorem best_of_chosenBank (h : s.chosenBank l = some b) : Best s l b := by
  obtain ⟨better, n, worse, hlist, hn, hnone⟩ := List.findSome?_eq_some_iff.1 h
  obtain ⟨⟨hclass, hfits⟩, hlow⟩ := (find?_class n).1 hn
  refine ⟨hfits, fun c hc => ?_⟩
  obtain ⟨m, hm⟩ := Option.ne_none_iff_exists'.1 hc.1.1
  have hrank : bankRank s b = n ∧ bankRank s c = m := by simp [bankRank, hclass, hm]
  rw [hrank.1, hrank.2]
  have hsorted : (better ++ n :: worse).Pairwise (· < ·) := hlist ▸ by decide
  have hmem : m ∈ better ++ n :: worse := hlist ▸ preference_mem hm
  rcases List.mem_append.1 hmem with hbetter | hrest
  · exact absurd hc (find?_class_eq_none (hnone m hbetter) hm)
  · rcases List.mem_cons.1 hrest with rfl | hworse
    · exact .inr ⟨rfl, Fin.not_lt.1 fun hlt => hlow c hlt hm hc⟩
    · exact .inl ((List.pairwise_cons.1 (List.pairwise_append.1 hsorted).2.1).1 m hworse)

theorem not_fits_of_chosenBank (h : s.chosenBank l = none) (b : Fin 4) : ¬Fits s l b := by
  intro hb
  obtain ⟨n, hn⟩ := Option.ne_none_iff_exists'.1 hb.1.1
  exact find?_class_eq_none (List.findSome?_eq_none_iff.1 h n (preference_mem hn)) hn hb

/-- Two best banks are one. -/
theorem Best.unique {c : Fin 4} (hb : Best s l b) (hc : Best s l c) : b = c := by
  have h1 := hb.2 c hc.1
  have h2 := hc.2 b hb.1
  omega

/-- The chosen bank is the best one (R55). -/
theorem chosenBank_eq_some : s.chosenBank l = some b ↔ Best s l b := by
  refine ⟨best_of_chosenBank, fun hb => ?_⟩
  cases h : s.chosenBank l with
  | none => exact absurd hb.1 (not_fits_of_chosenBank h b)
  | some c => rw [(best_of_chosenBank h).unique hb]

theorem any_candidate : allBanks.any (s.candidate l) = true ↔ ∃ b, Serves s l b := by
  simp [allBanks, candidate_iff]

/-! ### The conditions of the attempt, in order -/

theorem attempt_terminalTaken (h : (s.terminal l.terminal).holder ≠ none) : s.attempt l = .error .terminalTaken := by
  simp [attempt, Option.isSome_iff_ne_none, h]

section
variable (hfree : (s.terminal l.terminal).holder = none)
include hfree

theorem attempt_cellQuota (h : (s.seat l.owner).cellQuota < s.allottedCount l.owner + admissionCells l.target) :
    s.attempt l = .error .cellQuota := by
  simp [attempt, hfree, h]

variable (hquota : s.allottedCount l.owner + admissionCells l.target ≤ (s.seat l.owner).cellQuota)
include hquota

theorem attempt_noCells (h : ∀ b, ¬Serves s l b) : s.attempt l = .error .noCells := by
  have hany : allBanks.any (s.candidate l) = false := by
    rw [← Bool.not_eq_true, any_candidate]
    exact not_exists.2 h
  simp [attempt, hfree, Nat.not_lt.2 hquota, hany]

theorem attempt_served (h : Serves s l b) :
    (∀ c, s.chosenBank l = some c → s.attempt l = .ok c) ∧ (s.chosenBank l = none → s.attempt l = .error .overBudget) := by
  have hany : allBanks.any (s.candidate l) = true := any_candidate.2 ⟨b, h⟩
  exact ⟨fun c hc => by simp [attempt, hfree, Nat.not_lt.2 hquota, hany, hc],
    fun hc => by simp [attempt, hfree, Nat.not_lt.2 hquota, hany, hc]⟩

theorem attempt_overBudget (h : Serves s l b) (hf : ∀ c, ¬Fits s l c) : s.attempt l = .error .overBudget := by
  refine (attempt_served hfree hquota h).2 (Option.eq_none_iff_forall_ne_some.2 fun c hc => ?_)
  exact hf c (chosenBank_eq_some.1 hc).1

theorem attempt_eq_ok : s.attempt l = .ok b ↔ Best s l b := by
  rw [← chosenBank_eq_some]
  by_cases h : ∃ c, Serves s l c
  · obtain ⟨c, hc⟩ := h
    obtain ⟨hsome, hnone⟩ := attempt_served hfree hquota hc
    cases hb : s.chosenBank l with
    | none => simp [hnone hb]
    | some d => simp [hsome d hb]
  · have hserves := not_exists.1 h
    rw [attempt_noCells hfree hquota hserves]
    exact ⟨nofun, fun hb => absurd (chosenBank_eq_some.1 hb).1.1 (hserves b)⟩

end

end

/-- Settles O25: the attempt is its four conditions in order, and the chosen bank the best of those that fit. -/
theorem attemptNamesBankOrReason : Obligations.AttemptNamesBankOrReason := by
  unfold Obligations.AttemptNamesBankOrReason
  refine ⟨by decide, fun s x => ?counts, fun _ _ => ⟨rfl, rfl, rfl, rfl, rfl, fun _ => rfl, rfl⟩, fun s l => ?attempt⟩
  case counts =>
    rw [allottedCount_eq]
    refine congrArg (List.countP · _) (funext fun c => ?_)
    cases (s.cell c).state <;> rfl
  case attempt =>
    exact ⟨attempt_terminalTaken, fun hfree => ⟨attempt_cellQuota hfree, fun hquota => ⟨attempt_noCells hfree hquota,
      fun _ hb hc => attempt_overBudget hfree hquota hb hc, fun _ => attempt_eq_ok hfree hquota⟩⟩⟩

/-! ## Rescans (R57, R62, R63) -/

/-- A lease event is posted to the owner at an enabled seat, and the record is marked as changed (R17, R158). -/
theorem postLease_eq {s : State} {k : Fin 32} {l : Lease} (hl : s.lease? k = some l) (v : Event) :
    s.postLease k v =
      if (s.seat l.owner).enabled then
        (s.putLease k { l with changed := true }).setSeat l.owner
          { s.seat l.owner with latched := (s.seat l.owner).latched ||| v.mark }
      else s.putLease k { l with changed := true } := by
  simp only [postLease, hl]
  rfl

/-- A waiting lease that does not fit is passed over (R62). -/
theorem tryWaiting_error {s : State} {k : Fin 32} {l : Lease} {r : SubReason} (hl : s.lease? k = some l) (ha : s.attempt l = .error r) :
    s.tryWaiting k = s := by
  simp only [tryWaiting, hl, ha]
  split <;> rfl

/-- A waiting lease that fits is admitted, leaves the list and has ADMITTED posted (R57, R62). -/
theorem tryWaiting_ok {s : State} {k : Fin 32} {l : Lease} {n u : Nat} {b : Fin 4} (hl : s.lease? k = some l)
    (hst : l.state = .waiting n u) (ha : s.attempt l = .ok b) :
    s.tryWaiting k =
      { s.admitTo k l b with
        allocator := { (s.admitTo k l b).allocator with
          waitList := (s.admitTo k l b).allocator.waitList.filter (· ≠ k) } }.postLease k .admitted := by
  have hne : (fun j => decide (j ≠ k)) = (· != k) := funext fun j => decide_not
  simp only [tryWaiting, hl, hst, ha, hne]

/-- A slot whose record does not wait is left alone (R60). -/
theorem tryWaiting_of_not_waiting {s : State} {k : Fin 32} (h : ∀ l, s.lease? k = some l → ∀ n u, l.state ≠ .waiting n u) :
    s.tryWaiting k = s := by
  unfold tryWaiting
  split
  · rename_i l hl
    split
    · rename_i n u hst
      exact absurd hst (h l hl n u)
    all_goals rfl
  · rfl

/-- Settles O27: a rescan is the fold of `tryWaiting` over the wait list, and `tryWaiting` goes by the attempt. -/
theorem rescanTriesWaitingLeasesInOrder : Obligations.RescanTriesWaitingLeasesInOrder := by
  unfold Obligations.RescanTriesWaitingLeasesInOrder
  refine ⟨fun s h => rescan_of_held h, fun s h => by simp [rescan, h], fun s k l n u hl hst => ?_,
    fun s k h => tryWaiting_of_not_waiting h, fun s k l v hl => postLease_eq hl v⟩
  exact ⟨fun r hr => tryWaiting_error hl hr, fun b hb => tryWaiting_ok hl hst hb⟩

end Sys2Proof.Machine
end


section
/-! PROOFS. CANCEL, PURGE, and ADJUST of a waiting lease (R66 to R68, R85, R86, R93). -/

namespace Sys2Proof.Machine

open State

/-! ## Closing on request (R66, R85, R86, R93) -/

/-- A waiting lease leaves the wait list and closes, written out (R65, R66). -/
theorem closeWaiting_eq {s : State} {k : Fin 32} {l : Lease} (hl : s.lease? k = some l) (why : EndReason) :
    s.closeWaiting k why = { s.putLease k { l with state := .closed why } with
      allocator := { s.allocator with waitList := s.allocator.waitList.filter (· != k) } } := by
  simp only [closeWaiting, hl]
  rfl

/-- A request that closes a lease at once is followed by one rescan (R78, R86). -/
theorem stopByRequest_closed (s : State) (x : Seat) (k : Fin 32) (l : Lease) (why : EndReason) :
    s.stopByRequest x k l (.closed why) =
      (if x = l.owner then s.closeHolding k why else (s.closeHolding k why).postLease k .closed).rescan := rfl

/-- A request's record stands in the state it is taken in. -/
theorem lease_of_subject {i : Instr} {x : Seat} {h : Handle} {s : State} {k : Fin 32} {l : Lease} (hs : Subject i x h s k l) :
    s.taken.lease? k = some l :=
  (resolve_eq_some.1 hs.2.1).2.2

/-- A CANCEL answers by the state of its record. -/
theorem exec_cancel {x : Seat} {h : Handle} {s : State} {k : Fin 32} {l : Lease} {r : Reply} (hs : Subject (.cancel x h) x h s k l)
    (hr : cancelLease x k l s.taken = r) : exec (.cancel x h) s = .next (r.state.respond (.cancel x h) x r.status r.payload) :=
  hr ▸ request_of_subject (f := cancelLease x) rfl hs

/-- A PURGE answers by the state of its record. -/
theorem exec_purge {x : Seat} {h : Handle} {s : State} {k : Fin 32} {l : Lease} {r : Reply} (hs : Subject (.purge x h) x h s k l)
    (hr : purgeLease x k l s.taken = r) : exec (.purge x h) s = .next (r.state.respond (.purge x h) x r.status r.payload) :=
  hr ▸ request_of_subject (f := purgeLease x) rfl hs

/-- Only seat S sends a request of the supervisor class (R131). -/
theorem eq_s_of_accepted {i : Instr} {x : Seat} {s : State} (hi : requestOf i = some (x, supervisorClass)) (ha : Accepted i s) :
    x = .s := by
  obtain ⟨y, c, hy, -, hc⟩ := ha
  obtain ⟨rfl, rfl⟩ : x = y ∧ supervisorClass = c := by simpa [hi] using hy
  by_contra hx
  have hsupervisor : supervisorClass.supervisor = true := rfl
  unfold seatCheck at hc
  split at hc
  · cases hc
  · simp [hsupervisor, hx] at hc

/-- Settles O35: both requests go by the state of the record, and PURGE comes from seat S. -/
theorem cancelAndPurgeEndTheLease : Obligations.CancelAndPurgeEndTheLease := by
  unfold Obligations.CancelAndPurgeEndTheLease
  refine ⟨fun x h s k l hs => ?cancel, fun x h s k l hs => ?purge⟩
  case cancel =>
    have hl := lease_of_subject hs
    intro s1 i told left
    refine ⟨fun n u hst => exec_cancel (r := accept _) hs ?_, fun hst => exec_cancel (r := accept _) hs ?_,
      fun hst => exec_cancel (r := accept _) hs ?_, fun why hst => exec_cancel (r := accept _) hs ?_,
      fun why hst => exec_cancel (r := accept _) hs ?_, fun why hst => exec_cancel (r := refuse _ .wrongState) hs ?_⟩
    · simp only [cancelLease, hst, closeWaitingByRequest, closeWaiting_eq hl]
      rfl
    · obtain hst | ⟨why, hst⟩ := hst
      all_goals
        simp only [cancelLease, hst, stopByRequest_closed]
        rfl
    · obtain hst | hst | ⟨m, u, hst⟩ := hst
      all_goals
        simp only [cancelLease, hst]
        rfl
    all_goals
      simp only [cancelLease, hst]
      rfl
  case purge =>
    have hl := lease_of_subject hs
    obtain rfl := eq_s_of_accepted rfl hs.1
    intro s1 i told left
    have htold (t : State) : told t = if Seat.s = l.owner then t else t.postLease k .closed := by
      simp only [told, eq_comm]
    refine ⟨rfl, fun n u hst => ?_, fun hst => ?_, fun why hst => exec_purge (r := refuse _ .wrongState) hs ?_⟩
    · rw [htold]
      refine exec_purge (r := accept _) hs ?_
      simp only [purgeLease, hst, closeWaitingByRequest, closeWaiting_eq hl]
      rfl
    · rw [htold]
      refine exec_purge (r := accept _) hs ?_
      obtain ⟨p, hst⟩ | hst | ⟨m, u, hst⟩ | ⟨d, hst⟩ | ⟨why, hst⟩ := hst
      all_goals
        simp only [purgeLease, hst, stopByRequest_closed]
        rfl
    · simp only [purgeLease, hst]
      rfl

/-! ## ADJUST of a waiting lease (R67, R68) -/

/-- What R67 asks of the parameters of an ADJUST (log 33). -/
def GoodAdjust (p : AdjustParams) : Prop :=
  p.presence.toNat ≠ 0 ∧ p.presence.toNat < 4 ∧
    (p.presence.getLsbD 0 = true → 50 ≤ p.target.toNat ∧ p.target.toNat ≤ 600000) ∧
    (p.presence.getLsbD 1 = true → 1 ≤ p.extension.toNat ∧ p.extension.toNat ≤ 4095)

/-- An ADJUST passes its parameter check exactly when its parameters are good, and is then read as it stands. -/
theorem adjustRequest?_eq_some {p : AdjustParams} {q : AdjustRequest} :
    adjustRequest? p = some q ↔ GoodAdjust p ∧
      q.target = (if p.presence.getLsbD 0 = true then some p.target.toNat else none) ∧
      q.extension = if p.presence.getLsbD 1 = true then some p.extension.toNat else none := by
  have hzero : p.presence = 0#8 ↔ p.presence.toNat = 0 := by rw [← BitVec.toNat_inj]; rfl
  obtain ⟨target, extension⟩ := q
  unfold adjustRequest? target?
  simp only [Option.bind_eq_bind, Option.bind_eq_some_iff, require_eq_some, optional?_inRange?_eq_some, bit, Option.pure_def,
    Option.some.injEq, Bool.and_eq_true, bne_iff_ne, ne_eq, decide_eq_true_iff, AdjustRequest.mk.injEq, hzero]
  constructor
  · rintro ⟨_, ⟨hzero, hfour⟩, _, ⟨htarget, rfl⟩, _, ⟨hextension, rfl⟩, rfl, rfl⟩
    exact ⟨⟨hzero, hfour, htarget, hextension⟩, rfl, rfl⟩
  · rintro ⟨⟨hzero, hfour, htarget, hextension⟩, rfl, rfl⟩
    exact ⟨(), ⟨hzero, hfour⟩, _, ⟨htarget, rfl⟩, _, ⟨hextension, rfl⟩, rfl, rfl⟩

theorem adjustRequest?_eq_none {p : AdjustParams} : adjustRequest? p = none ↔ ¬GoodAdjust p := by
  rw [Option.eq_none_iff_forall_ne_some]
  refine ⟨fun h hp => h ⟨_, _⟩ (adjustRequest?_eq_some.2 ⟨hp, rfl, rfl⟩), fun h q hq => h (adjustRequest?_eq_some.1 hq).1⟩

section
variable {p : AdjustParams} {q : AdjustRequest} {k : Fin 32} {l : Lease} {s : State}

theorem adjustWaiting_badParam (hq : adjustRequest? p = none) : adjustWaiting p k l s = refuse s .badParam := by
  simp [adjustWaiting, hq]

variable (hq : adjustRequest? p = some q)
include hq

theorem adjustWaiting_quota (ht : q.target ≠ none) (hc : (s.seat l.owner).cellQuota < admissionCells (q.target.getD l.target)) :
    adjustWaiting p k l s = refuse s .quota := by
  simp [adjustWaiting, hq, Option.isSome_iff_ne_none, ht, hc]

variable (hc : q.target = none ∨ admissionCells (q.target.getD l.target) ≤ (s.seat l.owner).cellQuota)
include hc

/-- Past the cell quota the extension decides (R67, R68). -/
theorem adjustWaiting_extended :
    (extended Duration.extendWaiting l.duration q.extension = none → adjustWaiting p k l s = refuse s .badParam) ∧
      ∀ d, extended Duration.extendWaiting l.duration q.extension = some d →
        adjustWaiting p k l s = accept (s.putLease k { l with target := q.target.getD l.target, duration := d }) := by
  have hquota : (q.target.isSome && decide ((s.seat l.owner).cellQuota < admissionCells (q.target.getD l.target))) = false := by
    obtain hc | hc := hc
    · simp [hc]
    · simp [Nat.not_lt.2 hc]
  refine ⟨fun he => ?_, fun d he => ?_⟩
  all_goals simp only [adjustWaiting, hq, hquota, he, Bool.false_eq_true, if_false]

end

/-- Settles O40: the parameters field by field, then the checks of `adjustWaiting` in order. -/
theorem adjustOfWaitingLease : Obligations.AdjustOfWaitingLease := by
  unfold Obligations.AdjustOfWaitingLease
  refine ⟨fun p => ⟨?_, fun q hq => (adjustRequest?_eq_some.1 hq).2⟩, fun x p s k l n u hs hst => ?_⟩
  · simp only [adjustRequest?_eq_none, GoodAdjust, not_and_or, Classical.not_imp, ne_eq, not_not, not_lt, not_le]
  · intro s1 i
    have answer {r : Reply} (h : adjustWaiting p k l s1 = r) : exec i s = .next (r.state.respond i x r.status r.payload) :=
      exec_adjust hs (by rw [adjustLease, hst]; exact h)
    refine ⟨fun hq => answer (adjustWaiting_badParam hq), fun q hq => ?_⟩
    intro target
    refine ⟨fun ht hc => answer (adjustWaiting_quota hq ht hc), fun hc => ?_⟩
    obtain ⟨hrefused, haccepted⟩ := adjustWaiting_extended (k := k) hq hc
    refine ⟨fun he => answer (haccepted l.duration (by rw [he]; rfl)), fun m he => ?_⟩
    refine ⟨fun hd => answer (hrefused (by rw [he, hd]; rfl)), fun d hd => ⟨fun hlong => answer (hrefused ?_), fun hshort => ?_⟩⟩
    · simp [he, hd, extended, Duration.extendWaiting, hlong]
    · refine answer (haccepted _ ?_)
      simp [he, hd, extended, Duration.extendWaiting, Nat.not_lt.2 hshort, toSeconds_eq]

end Sys2Proof.Machine
end


section
/-! PROOFS. The fault path (R113, R114), and the notices of banks, waits and lapses (R65, R70, R136). -/

namespace Sys2Proof.Machine

open State

/-! ## What gives anything back (R63, R78) -/

section
variable {s : State} {k : Fin 32} {l : Lease}

theorem givesBack_closed (why : EndReason) : s.givesBack k (.closed why) = true := rfl

theorem leavingCells_ne_nil {a : Allocation} : a.leavingCells ≠ [] ↔ ∃ e ∈ a.cells, e.leaving = true := by
  simp [Allocation.leavingCells]

/-- A suspension gives something back when a cell is leaving (R78). -/
theorem givesBack_suspended (hl : s.lease? k = some l) (why : SuspendReason) :
    s.givesBack k (.suspended why) = true ↔ ∃ a, l.alloc = some a ∧ a.leavingCells ≠ [] := by
  simp [givesBack, hl, Option.any_eq_true]

/-! ## The fault path (R113, R114) -/

/-- The rail-lost mark, written out (R118). -/
theorem markRailLost_eq (hl : s.lease? k = some l) : s.markRailLost k = s.putLease k { l with railLost := true } := by
  simp only [markRailLost, hl]

/-- The fault path stops the lease into the destination its policy names, and a rescan follows if that gives anything back. -/
theorem faultPath_eq (hl : s.lease? k = some l) (kind : FaultKind) :
    s.faultPath k kind =
      ((((if kind = .railLost then (s.takeDestination k (l.policy.destination kind)).markRailLost k
        else s.takeDestination k (l.policy.destination kind)).postLease k (l.policy.destination kind).event).handPool
          (.fault l.terminal kind (l.policy.destination kind).isClosed)).rescanIf
            (s.givesBack k (l.policy.destination kind))) := by
  simp only [faultPath, faultLease, hl]

end

/-- Settles O53: the policy names the destination, and the stop into it is `suspendHolding` or `closeHolding`. -/
theorem faultPathStopsByPolicy : Obligations.FaultPathStopsByPolicy := by
  unfold Obligations.FaultPathStopsByPolicy
  intro s k l a kind hl ha marked
  refine ⟨fun hp => ?_, fun hp => ?_, markRailLost_eq hl⟩
  · have hgives : s.givesBack k (.suspended (.fault kind)) = decide (a.leavingCells ≠ []) := by
      rw [Bool.eq_iff_iff, givesBack_suspended hl, decide_eq_true_iff]
      simp [ha]
    rw [faultPath_eq hl, hp]
    exact congrArg (State.rescanIf _) hgives
  · rw [faultPath_eq hl, hp]
    rfl

/-! ## Bank-on notices (R70) -/

theorem takeBankOn_of_mem {s : State} {b : Fin 4} (h : b ∈ s.engine.bankOnNotices) :
    s.takeBankOn b = allSlots.foldl (fun s k => s.bankOnLease b k)
      { s with engine := { s.engine with bankOnNotices := s.engine.bankOnNotices.erase b } } := by
  simp [takeBankOn, h]

theorem takeBankOn_of_not_mem {s : State} {b : Fin 4} (h : b ∉ s.engine.bankOnNotices) : s.takeBankOn b = s := by
  simp [takeBankOn, h]

section
variable {s : State} {b : Fin 4} {k : Fin 32} {l : Lease} {a : Allocation} (hl : s.lease? k = some l) (ha : l.alloc = some a)
include hl ha

/-- A lease in STARTING–WAKE on the bank enters STARTING–RAMP, its claim becoming a driving lease (R35, R70). -/
theorem bankOnLease_starts (hst : l.state = .starting .wake) (hb : a.bank = b) (hon : (s.bank b).state = .on) :
    s.bankOnLease b k =
      ((s.putLease k { l with state := .starting .ramp }).setBank b
        { s.bank b with claims := (s.bank b).claims - 1, driving := (s.bank b).driving + 1 }).startRamp k l.target
        Allocation.targetCodes := by
  simp [bankOnLease, hl, ha, hst, hb, hon, claimToDriving, startTargetRamp]

theorem bankOnLease_other (h : l.state ≠ .starting .wake ∨ a.bank ≠ b ∨ (s.bank b).state ≠ .on) : s.bankOnLease b k = s := by
  have hnot : ¬(l.state = .starting .wake ∧ l.alloc.any (·.bank == b) = true ∧ (s.bank b).state = .on) := by
    rw [ha, Option.any_some, beq_iff_eq]
    tauto
  simp only [bankOnLease, hl, if_neg hnot]

end

/-! ## Wait-expiry notices (R65) -/

section
variable {s : State} {h : Handle}

/-- The state with the oldest wait-expiry notice of a handle taken. -/
def withoutWaitExpiry (s : State) (h : Handle) : State :=
  { s with allocator := { s.allocator with waitExpiryNotices := s.allocator.waitExpiryNotices.erase h } }

theorem takeWaitExpiry_of_not_mem (hn : h ∉ s.allocator.waitExpiryNotices) : s.takeWaitExpiry h = s := by
  simp [takeWaitExpiry, hn]

variable (hn : h ∈ s.allocator.waitExpiryNotices)
include hn

/-- A notice for a lease that waits no longer is discarded (R65). -/
theorem takeWaitExpiry_discarded (hw : ∀ k l, s.resolve h = some (k, l) → k ∉ s.allocator.waitList) :
    s.takeWaitExpiry h = withoutWaitExpiry s h := by
  unfold takeWaitExpiry
  rw [if_pos (List.contains_iff_mem.2 hn)]
  simp only
  split
  · rename_i k l hr
    rw [if_neg fun hk => hw k l hr (List.contains_iff_mem.1 hk)]
    rfl
  · rfl

/-- A notice for a lease still on the wait list closes it (R65). -/
theorem takeWaitExpiry_closes {k : Fin 32} {l : Lease} (hr : s.resolve h = some (k, l)) (hw : k ∈ s.allocator.waitList) :
    s.takeWaitExpiry h = ((withoutWaitExpiry s h).closeWaiting k .waitExpired).postLease k .closed := by
  have hresolve : (withoutWaitExpiry s h).resolve h = some (k, l) := hr
  unfold withoutWaitExpiry at hresolve ⊢
  simp [takeWaitExpiry, hn, hresolve, hw]

end

/-! ## Lapse notices (R136) -/

/-- The oldest lapse notice of a seat is taken (log 17). -/
theorem takeLapseNotice_eq {s : State} {n : LapseNotice} {before after : List LapseNotice}
    (hn : s.engine.lapseNotices = before ++ n :: after) (hfirst : ∀ m ∈ before, m.seat ≠ n.seat) :
    s.takeLapseNotice n.seat =
      { s with engine := { s.engine with lapseNotices := before ++ after } }.carryOutLapse n := by
  have hfind : s.engine.lapseNotices.find? (·.seat == n.seat) = some n :=
    List.find?_eq_some_iff_append.2 ⟨by simp, before, after, hn, fun m hm => by simpa using hfirst m hm⟩
  have herase : s.engine.lapseNotices.erase n = before ++ after := by
    rw [hn, List.erase_append_right _ fun hm => hfirst n hm rfl, List.erase_cons_head]
  simp only [takeLapseNotice, hfind, herase]

theorem takeLapseNotice_none {s : State} {x : Seat} (h : ∀ n ∈ s.engine.lapseNotices, n.seat ≠ x) : s.takeLapseNotice x = s := by
  have hfind : s.engine.lapseNotices.find? (·.seat == x) = none := List.find?_eq_none.2 fun n hn => by simpa using h n hn
  simp only [takeLapseNotice, hfind]

section
variable {s : State} {k : Fin 32} {l : Lease} (hl : s.lease? k = some l)
include hl

/-- A lapse that acts at once stops the lease and posts the event of its destination (R136). -/
theorem lapseLease_atOnce {p : LapsePolicy} {d : Destination} (hd : p.atOnce l.state = some d) :
    s.lapseLease p k = (s.takeDestination k d).postLease k d.event := by
  simp only [lapseLease, hl, hd]

theorem lapseLease_waiting {n u : Nat} (hst : l.state = .waiting n u) (p : LapsePolicy) :
    s.lapseLease p k = (s.closeWaiting k .lapsed).postLease k .closed := by
  simp only [lapseLease, hl, hst, LapsePolicy.atOnce]

/-- CLOSE_ALL ramps a driving lease down (R136). -/
theorem lapseLease_driving (hst : l.state = .starting .ramp ∨ l.state = .verifying ∨ ∃ m u, l.state = .active m u) :
    s.lapseLease .closeAll k = s.enterRampdown k (.closed .lapsed) := by
  obtain hst | hst | ⟨m, u, hst⟩ := hst
  all_goals simp only [lapseLease, hl, hst, LapsePolicy.atOnce]

/-- CLOSE_ALL redirects a rampdown toward SUSPENDED (R136). -/
theorem lapseLease_redirected {why : SuspendReason} (hst : l.state = .rampdown (.suspended why)) :
    s.lapseLease .closeAll k = s.putLease k { l with state := .rampdown (.closed .lapsed) } := by
  simp only [lapseLease, hl, hst, LapsePolicy.atOnce]

/-- A lapse leaves a rampdown, a suspension or a closing that is already what its policy asks for (R136). -/
theorem lapseLease_kept {p : LapsePolicy}
    (hst : (∃ why, l.state = .rampdown (.closed why) ∨ l.state = .closed why) ∨
      p = .suspendAll ∧ ∃ why, l.state = .rampdown (.suspended why) ∨ l.state = .suspended why) :
    s.lapseLease p k = s := by
  obtain ⟨why, hst | hst⟩ | ⟨rfl, why, hst | hst⟩ := hst
  all_goals simp only [lapseLease, hl, hst, LapsePolicy.atOnce]

theorem lapseGivesBack_eq (p : LapsePolicy) : s.lapseGivesBack p k = (p.atOnce l.state).any (s.givesBack k) := by
  rw [lapseGivesBack, hl]
  rfl

/-- SUSPEND_ALL gives something back where it suspends a lease with a leaving cell at once (R63, R136). -/
theorem lapseGivesBack_suspendAll : s.lapseGivesBack .suspendAll k = true ↔
    (l.state = .starting .wake ∨ l.state = .starting .ramp ∨ l.state = .verifying ∨ ∃ st u, l.state = .active st u) ∧
      ∃ a e, l.alloc = some a ∧ e ∈ a.cells ∧ e.leaving = true := by
  have hleaving : s.givesBack k (.suspended .lapsed) = true ↔ ∃ a e, l.alloc = some a ∧ e ∈ a.cells ∧ e.leaving = true := by
    rw [givesBack_suspended hl]
    simp only [leavingCells_ne_nil, exists_and_left]
  rw [lapseGivesBack_eq hl, ← hleaving]
  cases l.state with
  | starting p => cases p <;> simp [LapsePolicy.atOnce]
  | _ => simp [LapsePolicy.atOnce]

/-- CLOSE_ALL gives something back where it closes a lease at once (R63, R136). -/
theorem lapseGivesBack_closeAll : s.lapseGivesBack .closeAll k = true ↔ l.state = .starting .wake ∨ ∃ why, l.state = .suspended why := by
  rw [lapseGivesBack_eq hl]
  cases l.state with
  | starting p => cases p <;> simp [LapsePolicy.atOnce, givesBack_closed]
  | _ => simp [LapsePolicy.atOnce, givesBack_closed]

end

/-- An event of the device is its act on the settled state, then the outputs. -/
theorem event_eq {act : State → State} {s t : State} (h : act s.settle = t) : event act s = .next t.driveOutputs := by
  rw [event, h]

/-- Settles O56: each row takes the oldest notice it names, or has no effect. -/
theorem noticesAreTakenOnce : Obligations.NoticesAreTakenOnce := by
  unfold Obligations.NoticesAreTakenOnce
  refine ⟨fun s b => ?bankOn, fun s b k l a hl ha => ?bankOnLease, fun s h => ?waitExpiry, fun s x => ?lapse,
    fun s k l hl => ?lapseLease⟩
  case bankOn =>
    intro s1
    exact ⟨fun hb => event_eq (act := fun s => s.takeBankOn b) (takeBankOn_of_mem hb),
      fun hb => event_eq (act := fun s => s.takeBankOn b) (takeBankOn_of_not_mem hb)⟩
  case bankOnLease => exact ⟨bankOnLease_starts hl ha, bankOnLease_other hl ha⟩
  case waitExpiry =>
    intro s1 s2
    have taken {t : State} (ht : s1.takeWaitExpiry h = t) : exec (.waitExpiryNotice h) s = .next t.driveOutputs :=
      event_eq (act := fun s => s.takeWaitExpiry h) ht
    refine ⟨fun hn => taken (takeWaitExpiry_of_not_mem hn), fun hn => ⟨fun hw => taken (takeWaitExpiry_discarded hn hw), ?_⟩⟩
    intro k l hr hw t
    have hlease : (withoutWaitExpiry s1 h).lease? k = some l := (resolve_eq_some.1 hr).2.2
    refine taken ((takeWaitExpiry_closes hn hr hw).trans ?_)
    rw [closeWaiting_eq hlease]
    rfl
  case lapse =>
    intro s1
    refine ⟨fun hn => event_eq (act := fun s => s.takeLapseNotice _) (takeLapseNotice_none hn), ?_⟩
    rintro before n after hn hfirst rfl s2 ks
    exact event_eq (act := fun s => s.takeLapseNotice _) (takeLapseNotice_eq hn hfirst)
  case lapseLease =>
    intro closed suspended left
    refine ⟨fun n u p hst => ?_, fun hst => ?_, fun hst => ?_, fun why hst => ?_, fun why hst => ?_, fun hst p => ?_,
      lapseGivesBack_suspendAll hl, lapseGivesBack_closeAll hl⟩
    · rw [lapseLease_waiting hl hst, closeWaiting_eq hl]
    · refine ⟨lapseLease_atOnce hl (d := .suspended .lapsed) ?_, lapseLease_atOnce hl (d := .closed .lapsed) ?_⟩
      all_goals
        rw [hst]
        rfl
    · refine ⟨lapseLease_atOnce hl (d := .suspended .lapsed) ?_, lapseLease_driving hl hst⟩
      obtain hst | hst | ⟨m, u, hst⟩ := hst
      all_goals
        rw [hst]
        rfl
    · exact ⟨lapseLease_kept hl (.inr ⟨rfl, why, .inl hst⟩), lapseLease_redirected hl hst⟩
    · refine ⟨lapseLease_kept hl (.inr ⟨rfl, why, .inr hst⟩), lapseLease_atOnce hl (d := .closed .lapsed) ?_⟩
      rw [hst]
      rfl
    · exact lapseLease_kept hl (.inl hst)

end Sys2Proof.Machine
end


section
/-! PROOFS. Ramps: how one starts, the present level, and the due completions of zero-time ramps (R71 to R73, R80). -/

namespace Sys2Proof.Machine

open State

/-! ## The start of a ramp (R71 to R73) -/

/-- The cells of a ramp toward the given end codes, from the codes they carry (R71). -/
def rampCells (s : State) (ends : List (Fin 24 × Nat)) : List RampCell := ends.map fun e => ⟨e.1, (s.drive e.1).code, e.2⟩

/-- The record with a ramp from its present level that replaces any in flight, the ramp count one higher (R71, R72). -/
def withRamp (s : State) (l : Lease) (toLevel step : Nat) (ends : List (Fin 24 × Nat)) : Lease :=
  { l with
    ramp := some ⟨s.presentLevel l, toLevel, l.rampTime.getD 0, step, 0, rampCells s ends⟩, rampCount := l.rampCount + 1 }

section
variable {s : State} {k : Fin 32} {l : Lease} {a : Allocation} {toLevel : Nat} {ends : Allocation → List (Fin 24 × Nat)}
  (hl : s.lease? k = some l)
include hl

theorem startRamp_timed (ha : l.alloc = some a) (ht : l.rampTime.getD 0 ≠ 0) :
    s.startRamp k toLevel ends = s.putLease k (withRamp s l toLevel 0 (ends a)) := by
  simp only [startRamp, hl, ha, if_neg ht, withRamp, rampCells]

/-- A ramp time of 0 or none puts every cell at its end code at once (R73). -/
theorem startRamp_atOnce (ha : l.alloc = some a) (ht : l.rampTime.getD 0 = 0) :
    s.startRamp k toLevel ends =
      (s.putLease k (withRamp s l toLevel 32 (ends a))).writeRamp (rampCells s (ends a)) 32 := by
  simp only [startRamp, hl, ha, if_pos ht, withRamp, rampCells]
  rfl

theorem enterRampdown_eq (dest : Destination) :
    s.enterRampdown k dest = (s.putLease k { l with state := .rampdown dest }).startRamp k 0 Allocation.zeroTargets := by
  simp only [enterRampdown, hl]

theorem startTargetRamp_eq : s.startTargetRamp k = s.startRamp k l.target Allocation.targetCodes := by
  simp only [startTargetRamp, hl]

end

/-- The end codes toward a target: the lead cell takes the trim, a leaving cell code 0 (R30, R71). -/
theorem targetCodes_cons {a : Allocation} {lead : Fin 24} {rest : List ListedCell} (h : a.cells = ⟨lead, false⟩ :: rest) :
    a.targetCodes = (lead, leadCode a.baseCode a.trim) :: rest.map fun e => (e.cell, if e.leaving then 0 else a.baseCode) := by
  simp [Allocation.targetCodes, h]

/-! ## The present level (R71) -/

/-- Rounding to the nearest, halves upward, as two bounds (0.6). -/
theorem roundDiv_bounds (n : Nat) {d : Nat} (hd : 0 < d) :
    2 * d * roundDiv n d ≤ 2 * n + d ∧ 2 * n + d < 2 * d * (roundDiv n d + 1) :=
  ⟨Nat.mul_div_le .., Nat.lt_mul_div_succ _ (by omega)⟩

theorem presentLevel_none {s : State} {l : Lease} (ha : l.alloc = none) : s.presentLevel l = 0 := by
  simp only [presentLevel, ha]

theorem presentLevel_eq {s : State} {l : Lease} {a : Allocation} {r : Range} (ha : l.alloc = some a) (hr : l.range = some r) :
    s.presentLevel l = roundDiv ((a.cells.map fun e => (s.drive e.cell).code).sum * r.fullScale) 4095 := by
  simp only [presentLevel, ha, hr, levelOf, Option.getD_some, List.sum_eq_foldl]

/-! ## Due completions (R73, logs 3 and 18) -/

theorem zeroRamp_iff {s : State} {k : Fin 32} :
    s.zeroRamp k = true ↔ ∃ l r, s.lease? k = some l ∧ l.ramp = some r ∧ r.time = 0 := by
  simp only [zeroRamp, ramp?, Option.any_eq_true, Option.bind_eq_some_iff, beq_iff_eq]
  exact ⟨fun ⟨r, ⟨l, hl, hr⟩, ht⟩ => ⟨l, r, hl, hr, ht⟩, fun ⟨l, r, hl, hr, ht⟩ => ⟨r, ⟨l, hl, hr⟩, ht⟩⟩

/-- The due slot is the lowest one with a zero-time ramp in flight (log 18). -/
theorem dueSlot_eq_some {s : State} {k : Fin 32} :
    s.dueSlot = some k ↔ s.zeroRamp k = true ∧ ∀ j, j < k → s.zeroRamp j = false := by
  rw [dueSlot_eq, find?_allSlots]

/-- Settles O29: a start is `withRamp`, the present level is a rounded quotient, and settling takes the due slots lowest first. -/
theorem rampStartReplacesRamp : Obligations.RampStartReplacesRamp := by
  unfold Obligations.RampStartReplacesRamp
  refine ⟨fun s k l a toLevel ends hl ha => ⟨startRamp_timed hl ha, startRamp_atOnce hl ha⟩, fun s k l dest hl => enterRampdown_eq hl dest,
    fun s k l hl => startTargetRamp_eq hl, fun s l => ⟨presentLevel_none, fun a r ha hr => ?level⟩, fun s => ?settle,
    fun a lead rest => ⟨rfl, targetCodes_cons⟩⟩
  case level =>
    intro fullScale codes level
    have hscale : fullScale = r.fullScale := by cases r <;> rfl
    have hlevel : level = roundDiv (codes * fullScale) 4095 := by rw [hscale]; exact presentLevel_eq ha hr
    rw [hlevel]
    exact roundDiv_bounds _ (by omega)
  case settle =>
    intro zero
    have hzero (k : Fin 32) : zero k ↔ s.zeroRamp k = true := zeroRamp_iff.symm
    simp only [hzero, Bool.not_eq_true]
    refine ⟨fun h => settle_of_none (dueSlot_eq_none s |>.2 h), fun k hk hlow => ?_, fun k l r hl hr ht => ?_⟩
    · exact ⟨_, rfl, settle_of_due s (dueSlot_eq_some.2 ⟨hk, hlow⟩)⟩
    · have hdue := zeroRamp_iff.2 ⟨l, r, hl, hr, ht⟩
      rw [zeroRamp_settle] at hdue
      exact Bool.false_ne_true hdue

end Sys2Proof.Machine
end


section
/-! PROOFS. SUSPEND, RESUME and GROUP (R69, R78, R80, R83, R84, R86, R92). -/

namespace Sys2Proof.Machine

open State

/-! ## SUSPEND (R83, R86) -/

/-- A suspension gives something back exactly when the allocation has a leaving cell (R78). -/
theorem givesBack_suspended_eq {s : State} {k : Fin 32} {l : Lease} {a : Allocation} (hl : s.lease? k = some l) (ha : l.alloc = some a)
    (why : SuspendReason) : s.givesBack k (.suspended why) = decide (a.leavingCells ≠ []) := by
  rw [Bool.eq_iff_iff, givesBack_suspended hl, decide_eq_true_iff]
  simp [ha]

/-- A request that suspends a lease at once is followed by one rescan if a leaving cell is freed (R78, R86). -/
theorem stopByRequest_suspended {s : State} {k : Fin 32} {l : Lease} {a : Allocation} (hl : s.lease? k = some l) (ha : l.alloc = some a)
    (x : Seat) (why : SuspendReason) :
    s.stopByRequest x k l (.suspended why) =
      (if x = l.owner then s.suspendHolding k why else (s.suspendHolding k why).postLease k .suspended).rescanIf
        (decide (a.leavingCells ≠ [])) := by
  rw [← givesBack_suspended_eq hl ha why]
  rfl

/-- A SUSPEND answers by the state of its record. -/
theorem exec_suspend {x : Seat} {h : Handle} {s : State} {k : Fin 32} {l : Lease} {r : Reply} (hs : Subject (.suspend x h) x h s k l)
    (hr : suspendLease x k l s.taken = r) : exec (.suspend x h) s = .next (r.state.respond (.suspend x h) x r.status r.payload) :=
  hr ▸ request_of_subject (f := suspendLease x) rfl hs

/-- Settles O33: `suspendLease` by the state of the record. -/
theorem suspendActsByState : Obligations.SuspendActsByState := by
  unfold Obligations.SuspendActsByState
  intro x h s k l hs s1 i stopped told
  have hl := lease_of_subject hs
  refine ⟨fun a ha hst => exec_suspend (r := accept _) hs ?_, fun hst => exec_suspend (r := accept _) hs ?_,
    fun hst => exec_suspend (r := accept _) hs ?_, fun hst => exec_suspend (r := refuse _ .wrongState) hs ?_⟩
  · simp only [suspendLease, hst, stopByRequest_suspended hl ha]
    rfl
  · obtain hst | hst | ⟨m, u, hst⟩ := hst
    all_goals
      simp only [suspendLease, hst]
      rfl
  · obtain ⟨why, hst | hst⟩ := hst
    all_goals
      simp only [suspendLease, hst]
      rfl
  · obtain ⟨n, u, hst⟩ | ⟨why, hst | hst⟩ := hst
    all_goals
      simp only [suspendLease, hst]
      rfl

/-! ## RESUME (R84) -/

/-- A RESUME answers by the state of its record. -/
theorem exec_resume {x : Seat} {h : Handle} {s : State} {k : Fin 32} {l : Lease} {r : Reply} (hs : Subject (.resume x h) x h s k l)
    (hr : resumeLease k l s.taken = r) : exec (.resume x h) s = .next (r.state.respond (.resume x h) x r.status r.payload) :=
  hr ▸ request_of_subject (f := resumeLease) rfl hs

section
variable {s : State} {k : Fin 32} {l : Lease}

theorem resumeLease_wrongState
    (hst : (∃ n u, l.state = .waiting n u) ∨ (∃ p, l.state = .starting p) ∨ l.state = .verifying ∨ (∃ m u, l.state = .active m u) ∨
      ∃ why, l.state = .rampdown (.closed why) ∨ l.state = .closed why) :
    resumeLease k l s = refuse s .wrongState := by
  obtain ⟨n, u, hst⟩ | ⟨p, hst⟩ | hst | ⟨m, u, hst⟩ | ⟨why, hst | hst⟩ := hst
  all_goals simp only [resumeLease, hst]

theorem resumeLease_lapsed {why : SuspendReason} (hst : l.state = .rampdown (.suspended why) ∨ l.state = .suspended why)
    (h : s.lapsed l.owner = true) : resumeLease k l s = refuse s .lapsed := by
  obtain hst | hst := hst
  all_goals simp only [resumeLease, hst, h, if_true]

variable {why : SuspendReason} (h : s.lapsed l.owner = false)
include h

/-- A rampdown toward SUSPENDED turns into a start ramp from where it is (R84). -/
theorem resumeLease_rampdown (hst : l.state = .rampdown (.suspended why)) :
    resumeLease k l s =
      accept ((s.putLease k { l with state := .starting .ramp }).startRamp k l.target Allocation.targetCodes) := by
  have hput : (s.putLease k { l with state := .starting .ramp }).lease? k = some { l with state := .starting .ramp } := by
    rw [lease_putLease, if_pos rfl]
  simp only [resumeLease, hst, h, Bool.false_eq_true, if_false, startTargetRamp_eq hput]

variable {a : Allocation} (hst : l.state = .suspended why) (ha : l.alloc = some a)
include hst ha

theorem resumeLease_faulted (hb : (s.bank a.bank).state = .faulted) : resumeLease k l s = refuse s .bankUnavailable := by
  simp [resumeLease, hst, h, ha, hb]

/-- A suspended lease enters STARTING by the state of its bank (R69, R84). -/
theorem resumeLease_suspended (hb : (s.bank a.bank).state ≠ .faulted) : resumeLease k l s = accept (s.enterStarting k) := by
  simp [resumeLease, hst, h, ha, hb]

end

/-- Settles O34: the checks of `resumeLease` in order, and what an accepted one does by the state of the record. -/
theorem resumeActsByState : Obligations.ResumeActsByState := by
  unfold Obligations.ResumeActsByState
  intro x h s k l hs s1 i ownerLapsed
  have hlapsed : ownerLapsed ↔ s1.lapsed l.owner = true := beq_iff_eq.symm
  simp only [hlapsed, Bool.not_eq_true]
  refine ⟨fun hst => exec_resume hs (resumeLease_wrongState hst), ?_,
    fun why hst howner => exec_resume hs (resumeLease_rampdown howner hst), fun why a hst ha howner =>
      ⟨fun hb => exec_resume hs (resumeLease_faulted howner hst ha hb), fun hb => exec_resume hs (resumeLease_suspended howner hst ha hb)⟩⟩
  rintro ⟨why, hst⟩ howner
  exact exec_resume hs (resumeLease_lapsed hst howner)

/-! ## GROUP (R92) -/

/-- The action byte of a GROUP (11.5). -/
def GroupAction.byte : GroupAction → Nat
  | .suspend => 0 | .resume => 1 | .cancel => 2

theorem groupAction_eq_some {n : Nat} {a : GroupAction} :
    [GroupAction.suspend, .resume, .cancel][n]? = some a ↔ n = a.byte := by
  match n with
  | 0 | 1 | 2 => cases a <;> simp [GroupAction.byte]
  | n + 3 => cases a <;> simp [GroupAction.byte]

/-- The seat of a wire number (11.5). -/
theorem seatAll_eq_some {n : Nat} {x : Seat} : Seat.all[n]? = some x ↔ n = x.idx.val := by
  match n with
  | 0 | 1 | 2 | 3 | 4 => cases x <;> simp [Seat.all, Seat.idx]
  | n + 5 => cases x <;> simp [Seat.all, Seat.idx]

/-- A GROUP passes its parameter check when tag, action and seat are in range, and is read as it stands (R92). -/
theorem readGroup_eq_some {tag action seat : Byte} {t : Nat} {a : GroupAction} {x : Seat} :
    readGroup tag action seat = some (t, a, x) ↔
      (1 ≤ tag.toNat ∧ tag.toNat ≤ 15) ∧ action.toNat = a.byte ∧ seat.toNat = x.idx.val ∧ tag.toNat = t := by
  simp [readGroup, Option.bind_eq_some_iff, inRange?_eq_some, groupAction_eq_some, seatAll_eq_some]

theorem readGroup_eq_none {tag action seat : Byte}
    (h : ¬(1 ≤ tag.toNat ∧ tag.toNat ≤ 15 ∧ action.toNat ≤ 2 ∧ seat.toNat ≤ 4)) : readGroup tag action seat = none := by
  rw [Option.eq_none_iff_forall_ne_some]
  rintro ⟨t, a, x⟩ hread
  obtain ⟨⟨hlow, hhigh⟩, ha, hx, -⟩ := readGroup_eq_some.1 hread
  have haction : a.byte ≤ 2 := by cases a <;> decide
  exact h ⟨hlow, hhigh, by omega, by omega⟩

/-- An accepted GROUP answers with its body's reply. -/
theorem exec_group {x : Seat} {tag action seat : Byte} {s : State} {r : Reply} (ha : Accepted (.group x tag action seat) s)
    (hr : groupBody x tag action seat s.taken = r) :
    exec (.group x tag action seat) s = .next (r.state.respond (.group x tag action seat) x r.status r.payload) :=
  hr ▸ request_of_accepted rfl ha

section
variable {x : Seat} {tag action seat : Byte} {s : State} {t : Nat} {a : GroupAction} {owner : Seat}
  (hread : readGroup tag action seat = some (t, a, owner))
include hread

theorem groupBody_notPermitted (hx : x ≠ .s) (ho : owner ≠ x) : groupBody x tag action seat s = refuse s .notPermitted := by
  simp [groupBody, hread, hx, ho]

/-- A permitted GROUP visits the slots in order and answers its two counts. -/
theorem groupBody_visits (ho : x = .s ∨ owner = x) {g : GroupRun}
    (hg : g = (List.finRange 32).foldl (GroupRun.visit x t a owner) ⟨s, 0, 0⟩) :
    groupBody x tag action seat s = ⟨g.state, .ok, [BitVec.ofNat 8 g.acted, BitVec.ofNat 8 g.refused]⟩ := by
  have hpermitted : ¬(x ≠ .s ∧ owner ≠ x) := by tauto
  simp only [groupBody, hread, if_neg hpermitted, hg, allSlots, byte]

end

section
variable {x : Seat} {tag : Nat} {a : GroupAction} {owner : Seat} {g : GroupRun} {k : Fin 32}

/-- A slot without a record of the named seat and tag is passed over. -/
theorem visit_other (h : ∀ l, g.state.settle.lease? k = some l → ¬(l.owner = owner ∧ l.tag = some tag)) :
    GroupRun.visit x tag a owner g k = ⟨g.state.settle, g.acted, g.refused⟩ := by
  cases hl : g.state.settle.lease? k with
  | none => simp only [GroupRun.visit, hl]
  | some l => simp only [GroupRun.visit, hl, if_neg (h l hl)]

/-- A record of the named seat and tag is acted on and counted by the answer. -/
theorem visit_tagged {l : Lease} (hl : g.state.settle.lease? k = some l) (ho : l.owner = owner) (ht : l.tag = some tag) :
    GroupRun.visit x tag a owner g k =
      if (a.apply x k l g.state.settle).status = .ok then
        ⟨(a.apply x k l g.state.settle).state, g.acted + 1, g.refused⟩
      else ⟨g.state.settle, g.acted, g.refused + 1⟩ := by
  simp only [GroupRun.visit, hl, if_pos (And.intro ho ht)]

end

/-- Settles O39: the parameters are read field by field, GROUP is the fold of `visit`, and each action is the body of its request. -/
theorem groupActsOnTaggedRecords : Obligations.GroupActsOnTaggedRecords := by
  unfold Obligations.GroupActsOnTaggedRecords
  refine ⟨fun x tag action seat s ha => ?request, fun x tag a owner g k => ?visit, fun x h s k l i a hi hs => ?alone⟩
  case request =>
    intro s1 i
    refine ⟨fun h => exec_group (r := refuse _ .badParam) ha ?_, fun a owner hlow hhigh haction hseat => ?_⟩
    · simp only [groupBody, readGroup_eq_none h]
      rfl
    · have hbyte : action.toNat = a.byte := by cases a <;> exact haction
      have hread := readGroup_eq_some.2 ⟨⟨hlow, hhigh⟩, hbyte, hseat, rfl⟩
      refine ⟨fun hx ho => exec_group ha (groupBody_notPermitted hread hx ho), fun ho => ?_⟩
      intro g
      have hg : g = (List.finRange 32).foldl (GroupRun.visit x tag.toNat a owner) ⟨s1, 0, 0⟩ := rfl
      clear_value g
      exact exec_group ha (groupBody_visits hread ho hg)
  case visit => exact ⟨visit_other, fun l hl ho ht => visit_tagged hl ho ht⟩
  case alone =>
    simp only [List.mem_cons, Prod.mk.injEq, List.not_mem_nil, or_false] at hi
    obtain ⟨rfl, rfl⟩ | ⟨rfl, rfl⟩ | ⟨rfl, rfl⟩ := hi
    · exact exec_suspend hs rfl
    · exact exec_resume hs rfl
    · exact exec_cancel hs rfl

end Sys2Proof.Machine
end


section
/-! PROOFS. The checks of ADJUST in the holding states (R87, R91). -/

namespace Sys2Proof.Machine

open State

/-! ## The extension (R91) -/

/-- An extension of an indefinite lease is refused (R91). -/
theorem extendRunning_none (m : Nat) : Duration.extendRunning none m = none := rfl

/-- An extension that would take the reported remaining above 4095 is refused (R91). -/
theorem extendRunning_of_lt {c : Duration} {m : Nat} (h : 4095 < c.reported + m) : Duration.extendRunning (some c) m = none := by
  simp [Duration.extendRunning, h]

/-- An extension that each count given allows is made (R91). -/
theorem extended_of_le {d : Option Duration} {n : Option Nat} (h : ∀ m, n = some m → ∃ c, d = some c ∧ c.reported + m ≤ 4095) :
    ∃ e, extended Duration.extendRunning d n = some e := by
  cases n with
  | none => exact ⟨d, rfl⟩
  | some m =>
    obtain ⟨c, rfl, hm⟩ := h m rfl
    rw [extended, extendRunning_of_le hm]
    exact ⟨_, rfl⟩

/-! ## The checks of a new target, in order (R87) -/

section
variable {s : State} {l : Lease} {a : Allocation} {target : Nat}

theorem retargetRefusal_range (h : 6 < cellCount (l.range.getD .low) target) :
    s.retargetRefusal l a target = some (.rangeExceeded, []) := by
  simp [retargetRefusal, h]

variable (hn : cellCount (l.range.getD .low) target ≤ 6)
include hn

theorem retargetRefusal_quota (h : (s.seat l.owner).cellQuota <
      s.allottedCount l.owner - a.cells.length + max a.cells.length (cellCount (l.range.getD .low) target)) :
    s.retargetRefusal l a target = some (.quota, []) := by
  simp [retargetRefusal, Nat.not_lt.2 hn, h]

variable (hquota : s.allottedCount l.owner - a.cells.length + max a.cells.length (cellCount (l.range.getD .low) target) ≤
  (s.seat l.owner).cellQuota)
include hquota

theorem retargetRefusal_cells (h : (s.freeIn a.bank).length < cellCount (l.range.getD .low) target - a.cells.length) :
    s.retargetRefusal l a target = some (.noResources, [0x03#8]) := by
  simp [retargetRefusal, Nat.not_lt.2 hn, Nat.not_lt.2 hquota, h, SubReason.code]

theorem retargetRefusal_budget (hfree : cellCount (l.range.getD .low) target - a.cells.length ≤ (s.freeIn a.bank).length)
    (h : (s.bank a.bank).budget < s.committed a.bank - a.charge + chargeOf target (s.bank a.bank).rail) :
    s.retargetRefusal l a target = some (.noResources, [0x04#8]) := by
  simp [retargetRefusal, Nat.not_lt.2 hn, Nat.not_lt.2 hquota, Nat.not_lt.2 hfree, h, SubReason.code]

end

/-! ## ADJUST by state (R87) -/

section
variable {p : AdjustParams} {k : Fin 32} {l : Lease} {s : State}

theorem adjustLease_wrongState
    (hst : (∃ ph, l.state = .starting ph) ∨ l.state = .verifying ∨ (∃ d, l.state = .rampdown d) ∨ ∃ why, l.state = .closed why) :
    adjustLease p k l s = refuse s .wrongState := by
  obtain ⟨ph, hst⟩ | hst | ⟨d, hst⟩ | ⟨why, hst⟩ := hst
  all_goals simp only [adjustLease, hst]

/-- ACTIVE and SUSPENDED go by the same checks; only what a retarget starts tells them apart (R87, R89, R90). -/
theorem adjustLease_holding (hst : (∃ m u, l.state = .active m u) ∨ ∃ why, l.state = .suspended why) :
    ∃ suspended, adjustLease p k l s = adjustHolding p k l suspended s := by
  obtain ⟨m, u, hst⟩ | ⟨why, hst⟩ := hst
  · exact ⟨false, by simp only [adjustLease, hst]⟩
  · exact ⟨true, by simp only [adjustLease, hst]⟩

variable {suspended : Bool}

theorem adjustHolding_badParam (hq : adjustRequest? p = none) : adjustHolding p k l suspended s = refuse s .badParam := by
  simp only [adjustHolding, hq]

variable {q : AdjustRequest} (hq : adjustRequest? p = some q)
include hq

theorem adjustHolding_badExtension (he : extended Duration.extendRunning l.duration q.extension = none) :
    adjustHolding p k l suspended s = refuse s .badParam := by
  simp only [adjustHolding, hq, he]

variable {d : Option Duration} (he : extended Duration.extendRunning l.duration q.extension = some d)
include he

/-- An extension alone raises remaining (R91). -/
theorem adjustHolding_extension (ht : q.target = none) :
    adjustHolding p k l suspended s = accept (s.putLease k { l with duration := d }) := by
  simp only [adjustHolding, hq, he, ht]

theorem adjustHolding_refused {target : Nat} {a : Allocation} {st : Status} {payload : List Byte} (ht : q.target = some target)
    (ha : l.alloc = some a) (hr : s.retargetRefusal l a target = some (st, payload)) :
    adjustHolding p k l suspended s = ⟨s, st, payload⟩ := by
  simp only [adjustHolding, hq, he, ht, ha, hr]

end

/-- Settles O41: `adjustHolding` makes its checks in the order of R87, those of a new target by `retargetRefusal`. -/
theorem adjustIsCheckedInOrder : Obligations.AdjustIsCheckedInOrder := by
  unfold Obligations.AdjustIsCheckedInOrder
  intro x p s k l hs s1 i refused
  refine ⟨fun hst => exec_adjust hs (adjustLease_wrongState hst), fun hst => ?_⟩
  obtain ⟨suspended, hholding⟩ := adjustLease_holding (p := p) (k := k) (s := s1) hst
  have answer {r : Reply} (h : adjustHolding p k l suspended s1 = r) : exec i s = .next (r.state.respond i x r.status r.payload) :=
    exec_adjust hs (hholding.trans h)
  refine ⟨fun hq => answer (adjustHolding_badParam hq), fun q hq => ⟨fun m hm => ⟨fun hd => ?_, fun d hd hlong => ?_⟩, ?_, ?_⟩⟩
  · exact answer (adjustHolding_badExtension hq (by rw [hm, hd]; rfl))
  · refine answer (adjustHolding_badExtension hq ?_)
    rw [hm, hd, extended, extendRunning_of_lt hlong]
    rfl
  · intro m d hm hd hshort ht
    refine answer (adjustHolding_extension hq ?_ ht)
    rw [hm, hd, extended, extendRunning_of_le hshort]
    rfl
  · intro target a ht ha hextension n len e
    obtain ⟨d, he⟩ := extended_of_le hextension
    have refusal {st : Status} {payload : List Byte} (h : s1.retargetRefusal l a target = some (st, payload)) : refused st payload :=
      answer (adjustHolding_refused hq he ht ha h)
    exact ⟨fun hn => refusal (retargetRefusal_range hn), fun hn => ⟨fun hquota => refusal (retargetRefusal_quota hn hquota),
      fun hquota => ⟨fun hfree => refusal (retargetRefusal_cells hn hquota hfree),
        fun hfree hbudget => refusal (retargetRefusal_budget hn hquota hfree hbudget)⟩⟩⟩

end Sys2Proof.Machine
end


section
/-! PROOFS. The delivery of a result: applied or discarded, then judged (R76, R106 to R111). -/

namespace Sys2Proof.Machine

open State

/-! ## Whether a cell may drive (R28) -/

/-- A record written back in the same state leaves every handle naming a record of the state it had. -/
theorem resolve_state_putLease {s : State} {k : Fin 32} {l m : Lease} (hl : s.lease? k = some l) (hm : m.state = l.state) (h : Handle) :
    ((s.putLease k m).resolve h).map (·.2.state) = (s.resolve h).map (·.2.state) := by
  have hstate (j : Fin 32) : ((s.putLease k m).lease? j).map (·.state) = (s.lease? j).map (·.state) := by
    rw [lease_putLease]
    split
    · rename_i hk
      subst hk
      rw [hl, Option.map_some, Option.map_some, hm]
    · rfl
  unfold resolve
  rw [gen_putLease]
  split
  · rfl
  · split
    · simpa only [Option.map_map, Function.comp_def] using hstate (handleSlot h)
    · rfl

theorem mayDrive_eq_of_allotted {s : State} {c : Fin 24} {h : Handle} (hc : (s.cell c).state = .allotted h) :
    s.mayDrive c = ((s.resolve h).map (·.2.state)).any fun st => st.driving && (s.bank (bankOf c)).state == .on := by
  simp only [mayDrive, hc]
  cases s.resolve h <;> rfl

/-- Whether a cell may drive depends on the states of the records alone (R28). -/
theorem mayDrive_putLease {s : State} {k : Fin 32} {l m : Lease} (hl : s.lease? k = some l) (hm : m.state = l.state) (c : Fin 24) :
    (s.putLease k m).mayDrive c = s.mayDrive c := by
  cases hc : (s.cell c).state with
  | allotted h =>
    rw [mayDrive_eq_of_allotted (s := s.putLease k m) hc, mayDrive_eq_of_allotted hc, resolve_state_putLease hl hm]
    rfl
  | free | testing | outOfService w => simp only [mayDrive, cell_putLease, bank_putLease, hc]

/-! ## The trim step (R10, R110, R111) -/

/-- The trim the step asks for, by the band of R10 about the target. -/
theorem wantedTrim_eq (l : Lease) (trim : Int) (current : Nat) :
    wantedTrim l trim current =
      if current + l.tolerance.getD (max 10 ((l.target + 99) / 100)) < l.target then trim + 1
      else if l.target + l.tolerance.getD (max 10 ((l.target + 99) / 100)) < current then trim - 1 else trim := by
  have hband : effectiveTolerance l = l.tolerance.getD (max 10 ((l.target + 99) / 100)) := rfl
  rw [← hband]
  have hlow : (current : Int) - l.target < -(effectiveTolerance l : Int) ↔ current + effectiveTolerance l < l.target := by omega
  have hhigh : (effectiveTolerance l : Int) < (current : Int) - l.target ↔ l.target + effectiveTolerance l < current := by omega
  simp only [wantedTrim, hlow, hhigh]

section
variable {s : State} {k : Fin 32} {l : Lease} {a : Allocation} {current : Nat} (hl : s.lease? k = some l)
include hl

/-- No trim step is made with regulate no, in HOLD, or where none is wanted (R110, R111). -/
theorem trimStep_none (ha : l.alloc = some a) (h : l.regulate = false ∨ s.held = true ∨ wantedTrim l a.trim current = a.trim) :
    s.trimStep k current = s := by
  obtain h | h | h := h
  · simp [trimStep, hl, h]
  · simp [trimStep, hl, h]
  · simp [trimStep, hl, ha, h]

variable (ha : l.alloc = some a) (hreg : l.regulate = true) (hrun : s.held = false) (hmove : wantedTrim l a.trim current ≠ a.trim)
include ha hreg hrun hmove

/-- A step out of -64 to 63 is a TRIM_LIMIT fault (R110). -/
theorem trimStep_limit (h : wantedTrim l a.trim current < -64 ∨ 63 < wantedTrim l a.trim current) :
    s.trimStep k current = s.faultPath k .trimLimit := by
  simp only [trimStep, hl, hreg, hrun, ha, if_neg hmove, if_pos h, Bool.not_true, Bool.or_self, Bool.false_eq_true, if_false]

/-- A step within -64 to 63 writes the record and the code of the lead cell, and nothing else (R110). -/
theorem trimStep_made (hlow : -64 ≤ wantedTrim l a.trim current) (hhigh : wantedTrim l a.trim current ≤ 63) :
    ∃ drives, s.trimStep k current =
        { s.putLease k { l with alloc := some { a with trim := wantedTrim l a.trim current } } with cellArray := drives } ∧
      ∀ lead rest, a.cells = lead :: rest → ∀ c : Fin 24, drives[c] =
        if c = lead.cell then
          { s.drive c with code := if s.mayDrive c then leadCode a.baseCode (wantedTrim l a.trim current) else 0 }
        else s.drive c := by
  have hrange : ¬(wantedTrim l a.trim current < -64 ∨ 63 < wantedTrim l a.trim current) := by omega
  simp only [trimStep, hl, hreg, hrun, ha, if_neg hmove, if_neg hrange, Bool.not_true, Bool.or_self, Bool.false_eq_true, if_false]
  cases hc : a.cells with
  | nil => exact ⟨_, rfl, nofun⟩
  | cons lead rest =>
    refine ⟨_, rfl, fun lead' rest' h c => ?_⟩
    obtain ⟨rfl, rfl⟩ := List.cons.inj h
    change (writeCode _ lead.cell _).drive c = _
    simp only [writeCode, drive_setDrive, drive_putLease, mayDrive_putLease hl, eq_comm (a := c)]
    split
    · rename_i h
      rw [h]
    · rfl

end

/-! ## Which record a result applies to (R106) -/

theorem stampedState_verify {st : LeaseState} : stampedState .verify st = true ↔ st = .verifying := by
  cases st <;> simp [stampedState]

theorem stampedState_scan {st : LeaseState} : stampedState .scan st = true ↔ ∃ strike u, st = .active strike u := by
  cases st <;> simp [stampedState]

/-- A result applies to the record its handle names when that holds the terminal, in the stamped state, at the stamped ramp count (R106). -/
theorem applicable_eq_some {s : State} {r : Result} {k : Fin 32} {l : Lease} :
    s.applicable r = some (k, l) ↔ s.resolve r.handle = some (k, l) ∧ (s.terminal r.terminal).holder = some r.handle ∧
      l.rampCount = r.rampStamp ∧ stampedState r.source l.state = true := by
  simp only [applicable, Option.filter_eq_some_iff, Bool.and_eq_true, beq_iff_eq]
  tauto

/-! ## Judging an applied result (R76, R107 to R109) -/

/-- The state with the oldest result taken, `rest` being left (log 17). -/
def withResults (s : State) (rest : List Result) : State := { s with engine := { s.engine with results := rest } }

/-- The record with the measurement of a result, in a state (R107, R108). -/
def measured (l : Lease) (r : Result) (st : LeaseState) : Lease :=
  { l with lastMeasurement := some ⟨r.current, r.voltage⟩, state := st }

/-- A measurement alone leaves the state as it is. -/
theorem measured_of_state {l : Lease} {st : LeaseState} (hst : l.state = st) (r : Result) :
    { l with lastMeasurement := some ⟨r.current, r.voltage⟩ } = measured l r st := by
  subst hst
  rfl

section
variable {s : State} {k : Fin 32} {l : Lease} {r : Result} (hst : l.state = .verifying)
include hst

theorem applyVerify_compliance (hv : l.compliance < r.voltage) :
    s.applyVerify k l r = (s.putLease k (measured l r .verifying)).faultPath k .compliance := by
  simp only [applyVerify, if_pos hv, measured_of_state hst]

theorem applyVerify_openLoad (hv : r.voltage ≤ l.compliance) (hc : r.current * 2 < l.target) :
    s.applyVerify k l r = (s.putLease k (measured l r .verifying)).faultPath k .openLoad := by
  simp only [applyVerify, if_neg (Nat.not_lt.2 hv), if_pos hc, measured_of_state hst]

end

/-- A passing verify takes the lease to ACTIVE with STARTED (R76). -/
theorem applyVerify_passes {s : State} {k : Fin 32} {l : Lease} {r : Result} (hv : r.voltage ≤ l.compliance) (hc : l.target ≤ r.current * 2) :
    s.applyVerify k l r = ((s.putLease k (measured l r (.active false 0))).postLease k .started).reconsider := by
  simp only [applyVerify, if_neg (Nat.not_lt.2 hv), if_neg (Nat.not_lt.2 hc), enterActive, lease_putLease, if_true, putLease_putLease]
  rfl

section
variable {s : State} {k : Fin 32} {l : Lease} {r : Result} {strike : Bool} {u : Nat} (hst : l.state = .active strike u)
include hst

/-- A second measurement in a row above the compliance limit is a fault (R109). -/
theorem judgeScan_compliance (hv : l.compliance < r.voltage) (hs : strike = true) :
    s.judgeScan k l r = (s.putLease k (measured l r (.active true u))).faultPath k .compliance := by
  subst hs
  simp only [judgeScan, hst, if_pos hv]
  rfl

/-- A first measurement above the compliance limit sets the strike (R109). -/
theorem judgeScan_strike (hv : l.compliance < r.voltage) (hs : strike = false) :
    s.judgeScan k l r = s.putLease k (measured l r (.active true u)) := by
  subst hs
  simp only [judgeScan, hst, if_pos hv, Bool.false_eq_true, if_false]
  rfl

/-- A measurement within the compliance limit clears the strike and goes on to the trim step (R108 to R110). -/
theorem judgeScan_passes (hv : r.voltage ≤ l.compliance) :
    s.judgeScan k l r = (s.putLease k (measured l r (.active false u))).trimStep k r.current := by
  simp only [judgeScan, hst, if_neg (Nat.not_lt.2 hv)]
  rfl

end

/-! ## Delivery (R106, R108, log 17) -/

theorem deliverResult_nil {s : State} (h : s.engine.results = []) : s.deliverResult = s := by
  simp only [deliverResult, h]

section
variable {s : State} {r : Result} {rest : List Result} (h : s.engine.results = r :: rest)
include h

theorem deliverResult_discarded (ha : (withResults s rest).applicable r = none) : s.deliverResult = withResults s rest := by
  unfold withResults at ha ⊢
  simp only [deliverResult, h, ha]

variable {k : Fin 32} {l : Lease} (ha : (withResults s rest).applicable r = some (k, l))
include ha

theorem deliverResult_verify (hr : r.source = .verify) : s.deliverResult = (withResults s rest).applyVerify k l r := by
  unfold withResults at ha ⊢
  simp only [deliverResult, h, ha, hr]

/-- An applied scan result goes on to Pool Control (R108 step 4). -/
theorem deliverResult_scan (hr : r.source = .scan) :
    s.deliverResult = ((withResults s rest).judgeScan k l r).handPool (.scan r.terminal r.current) := by
  unfold withResults at ha ⊢
  simp only [deliverResult, h, ha, hr]

end

/-- Settles O52: the oldest result is applied by its stamps or discarded, and an applied one is judged by its source. -/
theorem resultIsAppliedOrDiscarded : Obligations.ResultIsAppliedOrDiscarded := by
  unfold Obligations.ResultIsAppliedOrDiscarded
  have delivered {s t : State} (h : s.settle.deliverResult = t) : exec .resultDelivery s = .next t.driveOutputs := event_eq h
  refine ⟨fun s r rest hr => ?delivery, fun s hr => delivered (deliverResult_nil hr), fun s k l a current hl ha => ?trim⟩
  case delivery =>
    intro s1 applies
    have happlies (k : Fin 32) (l : Lease) : applies k l ↔ s1.applicable r = some (k, l) := by
      rw [applicable_eq_some]
      cases hsrc : r.source with
      | verify => rw [stampedState_verify]; simp only [applies, hsrc]
      | scan => rw [stampedState_scan]; simp only [applies, hsrc]
    refine ⟨fun hno => delivered (deliverResult_discarded hr ?_), fun k l hyes => ?_⟩
    · exact Option.eq_none_iff_forall_ne_some.2 fun kl hkl => hno kl.1 kl.2 ((happlies ..).2 hkl)
    · have happ := (happlies k l).1 hyes
      have hstamp := (applicable_eq_some.1 happ).2.2.2
      refine ⟨fun hsrc => ?_, fun strike u hsrc hst => ?_⟩
      · rw [hsrc, stampedState_verify] at hstamp
        have verified {t : State} (h : s1.applyVerify k l r = t) : exec .resultDelivery s = .next t.driveOutputs :=
          delivered ((deliverResult_verify hr happ hsrc).trans h)
        exact ⟨fun hv => verified (applyVerify_compliance hstamp hv), fun hv hc => verified (applyVerify_openLoad hstamp hv hc),
          fun hv hc => verified (applyVerify_passes hv hc)⟩
      · have judged {t : State} (h : s1.judgeScan k l r = t) :
            exec .resultDelivery s = .next (t.handPool (.scan r.terminal r.current)).driveOutputs :=
          delivered ((deliverResult_scan hr happ hsrc).trans (congrArg (State.handPool · _) h))
        exact ⟨fun hv hs => judged (judgeScan_compliance hst hv hs), fun hv hs => judged (judgeScan_strike hst hv hs),
          fun hv => judged (judgeScan_passes hst hv)⟩
  case trim =>
    intro band next t
    have hnext : next = wantedTrim l a.trim current := (wantedTrim_eq l a.trim current).symm
    rw [hnext]
    refine ⟨trimStep_none hl ha, fun hreg hrun hmove => ⟨trimStep_limit hl ha hreg hrun hmove, fun hlow hhigh => ?_⟩⟩
    obtain ⟨drives, ht, hdrives⟩ := trimStep_made hl ha hreg hrun hmove hlow hhigh
    have ht : t = _ := ht
    clear_value t
    subst ht
    refine ⟨?record, fun j hj => slot_putLease_of_ne s hj, gen_putLease .., rfl, rfl, rfl, rfl, rfl, rfl, rfl, rfl, rfl, rfl, rfl, rfl,
      fun lead rest hc => ⟨fun c hne => ?_, ?_⟩⟩
    case record => exact (lease_putLease ..).trans (if_pos rfl)
    · exact (hdrives lead rest hc c).trans (if_neg hne)
    · exact (hdrives lead rest hc lead.cell).trans (if_pos rfl)

end Sys2Proof.Machine
end


section
/-! PROOFS. The scan requests, and what the Measurement Unit starts when it reconsiders (R94, R96 to R104). -/

namespace Sys2Proof.Machine

open State

/-! ## Requests in common -/

/-- An accepted request answers the reply its body makes. -/
theorem request_reply {i : Instr} {x : Seat} {c : RequestClass} {p : List Byte} {body : State → Reply} {s : State} {r : Reply}
    (hi : requestOf i = some (x, c)) (ha : Accepted i s) (hb : body s.taken = r) :
    request i x c p body s = .next (r.state.respond i x r.status r.payload) :=
  hb ▸ request_of_accepted hi ha

/-- A flag byte is 0 or 1, and set when it is 1 (11.5). -/
theorem choice?_flag {v : Byte} {b : Bool} : choice? false true v = some b ↔ v.toNat ≤ 1 ∧ b = decide (v.toNat = 1) := by
  rw [choice?_eq_some]
  constructor
  · rintro (⟨h, rfl⟩ | ⟨h, rfl⟩) <;> simp [h]
  · rintro ⟨h, rfl⟩
    obtain h | h : v.toNat = 0 ∨ v.toNat = 1 := by omega
    all_goals simp [h]

/-! ## The scan configuration (R99) -/

/-- What R99 asks of the parameters of a SCAN SET. -/
def GoodScan (p : ScanSetParams) : Prop :=
  p.averaging.toNat ∈ [1, 2, 4, 8] ∧ p.offset.toNat ≤ 1 ∧ 1 ≤ p.dwell.toNat ∧ p.dwell.toNat ≤ 100 ∧
    p.mode.toNat ≤ 1 ∧ (p.mode.toNat = 1 → p.terminal.toNat ≤ 15)

/-- The mode byte as the device reads it: LOCK names a terminal, round robin none. -/
def ModeRead (p : ScanSetParams) (v : ScanMode) : Prop :=
  (p.mode.toNat = 0 → v = .roundRobin) ∧ (p.mode.toNat = 1 → ∃ m : Fin 16, m.val = p.terminal.toNat ∧ v = .lock m)

/-- The mode is read from its byte, the terminal in LOCK only, and `f` goes on with it. -/
theorem lockedMode_bind_eq_some {α : Type} {p : ScanSetParams} {f : ScanMode → Option α} {a : α} (hmode : p.mode.toNat ≤ 1) :
    (if decide (p.mode.toNat = 1) = true then ((index? 16 p.terminal.toNat).map ScanMode.lock).bind f
      else (some .roundRobin).bind f) = some a ↔
      (p.mode.toNat = 1 → p.terminal.toNat ≤ 15) ∧ ∃ v, ModeRead p v ∧ f v = some a := by
  obtain h | h : p.mode.toNat = 0 ∨ p.mode.toNat = 1 := by omega
  · simp [ModeRead, h]
  · simp only [ModeRead, h, decide_true, if_true, Option.bind_eq_some_iff, Option.map_eq_some_iff, index?_eq_some, one_ne_zero,
      false_imp_iff, true_and, forall_const]
    constructor
    · rintro ⟨_, ⟨m, hm, rfl⟩, hf⟩
      exact ⟨by omega, _, ⟨m, hm, rfl⟩, hf⟩
    · rintro ⟨-, _, ⟨m, hm, rfl⟩, hf⟩
      exact ⟨_, ⟨m, hm, rfl⟩, hf⟩

/-- A SCAN SET passes R99 exactly when its parameters are good, and is then read as it stands. -/
theorem scanConfig?_eq_some {p : ScanSetParams} {c : ScanConfig} :
    scanConfig? p = some c ↔ GoodScan p ∧ c.averaging = p.averaging.toNat ∧ c.offsetCancel = decide (p.offset.toNat = 1) ∧
      c.dwell = p.dwell.toNat ∧ ModeRead p c.mode := by
  unfold scanConfig?
  simp only [Option.bind_eq_bind, Option.bind_eq_some_iff, require_eq_some, choice?_flag, inRange?_eq_some, Option.pure_def,
    List.contains_iff_mem]
  constructor
  · rintro ⟨_, haveraging, _, ⟨hoffset, rfl⟩, _, ⟨hlow, hhigh, rfl⟩, _, ⟨hmode, rfl⟩, hbind⟩
    obtain ⟨hterminal, v, hread, hc⟩ := (lockedMode_bind_eq_some hmode).1 hbind
    cases hc
    exact ⟨⟨haveraging, hoffset, hlow, hhigh, hmode, hterminal⟩, rfl, rfl, rfl, hread⟩
  · obtain ⟨averaging, offsetCancel, dwell, mode⟩ := c
    rintro ⟨⟨haveraging, hoffset, hlow, hhigh, hmode, hterminal⟩, rfl, rfl, rfl, hread⟩
    exact ⟨(), haveraging, _, ⟨hoffset, rfl⟩, _, ⟨hlow, hhigh, rfl⟩, _, ⟨hmode, rfl⟩,
      (lockedMode_bind_eq_some hmode).2 ⟨hterminal, mode, hread, rfl⟩⟩

/-- Good parameters have a mode to read. -/
theorem modeRead_of_goodScan {p : ScanSetParams} (hp : GoodScan p) : ∃ v, ModeRead p v := by
  obtain ⟨-, -, -, -, hmode, hterminal⟩ := hp
  obtain h | h : p.mode.toNat = 0 ∨ p.mode.toNat = 1 := by omega
  · exact ⟨.roundRobin, fun _ => rfl, fun h1 => by omega⟩
  · exact ⟨.lock ⟨p.terminal.toNat, by have := hterminal h; omega⟩, fun h0 => by omega, fun _ => ⟨_, rfl, rfl⟩⟩

theorem scanConfig?_isSome_iff {p : ScanSetParams} : (scanConfig? p).isSome = true ↔ GoodScan p := by
  rw [Option.isSome_iff_exists]
  refine ⟨fun ⟨c, hc⟩ => (scanConfig?_eq_some.1 hc).1, fun hp => ?_⟩
  obtain ⟨v, hv⟩ := modeRead_of_goodScan hp
  exact ⟨⟨_, _, _, v⟩, scanConfig?_eq_some.2 ⟨hp, rfl, rfl, rfl, hv⟩⟩

/-- Settles O49: the parameters are read field by field, and each request answers the reply of its body. -/
theorem scanRequestsConfigureAndRun : Obligations.ScanRequestsConfigureAndRun := by
  unfold Obligations.ScanRequestsConfigureAndRun
  refine ⟨fun p => ⟨scanConfig?_isSome_iff, fun c hc => ?read⟩, fun x p s ha => ?set, fun x s ha => ?start, fun x s ha => ?stop⟩
  case read =>
    obtain ⟨-, haveraging, hoffset, hdwell, hrobin, hlock⟩ := scanConfig?_eq_some.1 hc
    exact ⟨haveraging, hoffset, hdwell, hrobin, hlock⟩
  case set =>
    intro s1 i
    have answer {r : Reply} (h : scanSetBody p s1 = r) : exec i s = .next (r.state.respond i x r.status r.payload) :=
      request_reply rfl ha h
    exact ⟨fun hp => answer (r := refuse s1 .badParam) (by simp only [scanSetBody, hp]),
      fun c hc => answer (r := accept { s1 with meas := { s1.meas with pending := c } }) (by simp only [scanSetBody, hc])⟩
  case start => exact request_reply (body := scanStartBody) rfl ha rfl
  case stop => exact request_reply (body := scanStopBody) rfl ha rfl

/-! ## The verify queue (R97, R98) -/

section
variable {s : State} {h : Handle} {k : Fin 32} {l : Lease}

theorem validEntry_iff : s.validEntry h = true ↔ ∃ k l, s.resolve h = some (k, l) ∧ l.state = .verifying := by
  unfold validEntry
  split
  · rename_i k l hr
    rw [hr]
    simp
  · rename_i hr
    simp [hr]

/-- With stale entries alone nothing is left of the queue (R98). -/
theorem freshQueue_nil (hstale : ∀ g ∈ s.meas.verifyQueue, s.validEntry g = false) : s.freshQueue = [] := by
  simpa [freshQueue, List.dropWhile_eq_nil_iff] using hstale

/-- The stale entries before the first valid one are removed (R98). -/
theorem freshQueue_cons {stale rest : List Handle} (hq : s.meas.verifyQueue = stale ++ h :: rest)
    (hstale : ∀ g ∈ stale, s.validEntry g = false) (hvalid : s.validEntry h = true) : s.freshQueue = h :: rest := by
  rw [freshQueue, hq, List.dropWhile_append_of_pos (by simpa using hstale), List.dropWhile_cons_of_neg (by simp [hvalid])]

end

/-! ## The visit (R103, R104) -/

theorem qualifies_eq_some {s : State} {n : Fin 16} {h : Handle} {l : Lease} :
    s.qualifies n = some (h, l) ↔
      (s.terminal n).holder = some h ∧ ∃ k, s.resolve h = some (k, l) ∧ (∃ st u, l.state = .active st u) ∧ l.ramp = none := by
  unfold qualifies
  split
  · rename_i g hg
    rw [hg, Option.some.injEq]
    split
    · rename_i k m hr
      split
      · rename_i st u hst hramp
        constructor
        · intro h
          cases h
          exact ⟨rfl, k, hr, ⟨st, u, hst⟩, hramp⟩
        · rintro ⟨rfl, k', hr', -⟩
          cases hr.symm.trans hr'
          rfl
      · rename_i hnot
        refine ⟨nofun, ?_⟩
        rintro ⟨rfl, k', hr', ⟨st, u, hst⟩, hramp⟩
        cases hr.symm.trans hr'
        exact absurd hramp (hnot st u hst)
    · rename_i hr
      refine ⟨nofun, ?_⟩
      rintro ⟨rfl, k', hr', -⟩
      exact nomatch hr.symm.trans hr'
  · rename_i hg
    simp [hg]

/-- A visit considers every terminal, or the locked one. -/
theorem mem_visitOrder {s : State} {n : Fin 16} :
    n ∈ s.visitOrder ↔ s.meas.active.mode = .roundRobin ∨ s.meas.active.mode = .lock n := by
  unfold visitOrder
  split
  · rename_i hmode
    rw [hmode]
    simp only [true_or, iff_true, List.mem_map]
    exact ⟨n - (s.meas.position + 1), List.mem_finRange _, add_sub_cancel _ _⟩
  · rename_i t hmode
    rw [hmode]
    simp [eq_comm]

theorem nextVisit_eq_none {s : State} (h : ∀ n ∈ s.visitOrder, s.qualifies n = none) : s.nextVisit = none := by
  rw [nextVisit, List.findSome?_eq_none_iff]
  intro n hn
  rw [h n hn]
  rfl

/-- In LOCK the visit is of the locked terminal (R104). -/
theorem nextVisit_lock {s : State} {n : Fin 16} {h : Handle} {l : Lease} (hmode : s.meas.active.mode = .lock n)
    (hq : s.qualifies n = some (h, l)) : s.nextVisit = some (n, h, l) := by
  simp [nextVisit, visitOrder, hmode, hq]

/-- A search of the indices finds the first that has a value. -/
theorem findSome?_finRange {α : Type} {n : Nat} {f : Fin n → Option α} {i : Fin n} {a : α} (hi : f i = some a)
    (hbefore : ∀ j, j < i → f j = none) : (List.finRange n).findSome? f = some a := by
  induction n with
  | zero => exact i.elim0
  | succ n ih =>
    rw [List.finRange_succ, List.findSome?_cons, List.findSome?_map]
    cases i using Fin.cases with
    | zero => rw [hi]
    | succ i =>
      rw [hbefore 0 i.succ_pos]
      exact ih (f := f ∘ Fin.succ) hi fun j hj => hbefore j.succ (Fin.succ_lt_succ_iff.2 hj)

/-- The place of a terminal in the round from the position on (R103). -/
theorem val_sub_position (n position : Fin 16) : (n - (position + 1)).val = (n.val + 15 - position.val) % 16 := by
  simp only [Fin.val_sub, Fin.val_add, Fin.val_one]
  omega

/-- Round robin visits the qualifying terminal that comes first after the position (R103). -/
theorem nextVisit_roundRobin {s : State} {n : Fin 16} {h : Handle} {l : Lease} (hmode : s.meas.active.mode = .roundRobin)
    (hq : s.qualifies n = some (h, l))
    (hfirst : ∀ m g l', s.qualifies m = some (g, l') → n - (s.meas.position + 1) ≤ m - (s.meas.position + 1)) :
    s.nextVisit = some (n, h, l) := by
  simp only [nextVisit, visitOrder, hmode, List.findSome?_map, allTerminals]
  refine findSome?_finRange (i := n - (s.meas.position + 1)) ?_ fun j hj => ?_
  · simp only [Function.comp_apply, add_sub_cancel, hq, Option.map_some]
  · rw [Function.comp_apply, Option.map_eq_none_iff, Option.eq_none_iff_forall_ne_some]
    rintro ⟨g, l'⟩ hm
    have := hfirst _ _ _ hm
    rw [add_sub_cancel_left] at this
    exact absurd hj (not_lt.2 this)

/-! ## What the unit starts (R94, R96) -/

/-- The conversion of a lease: its handle and ramp count, and what the active configuration asks for (R94, R95). -/
def conversionOf (m : MeasurementUnit) (src : Source) (h : Handle) (l : Lease) : Conversion :=
  { terminal := l.terminal, source := src, handle := h, rampStamp := l.rampCount, averaging := m.active.averaging
    offsetCancel := m.active.offsetCancel, timeLeft := 16 * (m.active.averaging + if m.active.offsetCancel then 1 else 0) }

theorem startConversion_eq (s : State) (src : Source) (h : Handle) (l : Lease) :
    s.startConversion src h l = { s with meas := { s.meas with conversion := some (conversionOf s.meas src h l) } } := by
  have hticks : conversionTicks s.meas.active.averaging s.meas.active.offsetCancel =
      16 * (s.meas.active.averaging + if s.meas.active.offsetCancel then 1 else 0) := by
    rw [conversionTicks]
    omega
  simp only [startConversion, hticks, conversionOf]

theorem reconsider_converting {s : State} (hc : s.meas.conversion ≠ none) : s.reconsider = s := by
  rw [reconsider, if_pos (Option.isSome_iff_ne_none.2 hc)]

section
variable {s : State} {h : Handle} {l : Lease} (hc : s.meas.conversion = none)
include hc

/-- The first valid entry of the verify queue is measured before any terminal (R96, R98). -/
theorem reconsider_verify {rest : List Handle} {k : Fin 32} (hq : s.freshQueue = h :: rest) (hr : s.resolve h = some (k, l)) :
    s.reconsider = { s with meas := { s.meas with verifyQueue := rest } }.startConversion .verify h l := by
  simp only [reconsider, hc, hq, hr, Option.isSome_none, Bool.false_eq_true, if_false]

variable (hq : s.freshQueue = [])
include hq

/-- With no visit to make the unit waits, its queue empty (R96). -/
theorem reconsider_idle (hv : s.meas.running = false ∨ s.meas.visitDue = false ∨ s.nextVisit = none) :
    s.reconsider = { s with meas := { s.meas with verifyQueue := [] } } := by
  simp only [reconsider, hc, hq, Option.isSome_none, Bool.false_eq_true, if_false]
  split
  · rename_i hdue
    rw [Bool.and_eq_true] at hdue
    simp only [hdue, Bool.true_eq_false, false_or] at hv
    rw [hv]
  · rfl

/-- A due visit is made when a terminal qualifies (R103, R104). -/
theorem reconsider_scan {n : Fin 16} (hrun : s.meas.running = true) (hdue : s.meas.visitDue = true)
    (hv : s.nextVisit = some (n, h, l)) :
    s.reconsider =
      { s with meas := { s.meas with verifyQueue := [], position := n, dwell := none, visitDue := false } }.startConversion
        .scan h l := by
  simp only [reconsider, hc, hq, hrun, hdue, hv, Option.isSome_none, Bool.false_eq_true, if_false, Bool.and_self, if_true]

end

/-- Settles O50: the unit goes by its conversion, then by the first valid entry of its queue, then by the visit. -/
theorem reconsiderChoosesWork : Obligations.ReconsiderChoosesWork := by
  unfold Obligations.ReconsiderChoosesWork
  intro s m valid start qualifies idle
  have hstale {q : List Handle} (h : ∀ g ∈ q, ¬valid g) : ∀ g ∈ q, s.validEntry g = false :=
    fun g hg => Bool.eq_false_iff.2 fun hv => h g hg (validEntry_iff.1 hv)
  have hqualifies {n h l} : s.qualifies n = some (h, l) ↔ ∃ k, qualifies n h k l := by
    simp only [qualifies_eq_some, qualifies, exists_and_left]
  refine ⟨reconsider_converting, fun hc => ⟨fun stale h rest k l hq hbefore hr hst => ?verify, fun hnone => ?visit⟩⟩
  case verify =>
    have hfresh := freshQueue_cons hq (hstale hbefore) (validEntry_iff.2 ⟨k, l, hr, hst⟩)
    exact (reconsider_verify hc hfresh hr).trans (startConversion_eq ..)
  case visit =>
    have hfresh := freshQueue_nil (hstale hnone)
    have visited {n h l} (hrun : m.running = true) (hdue : m.visitDue = true) (hv : s.nextVisit = some (n, h, l)) :
        s.reconsider = start { m with verifyQueue := [], position := n, dwell := none, visitDue := false } .scan h l :=
      (reconsider_scan hc hfresh hrun hdue hv).trans (startConversion_eq ..)
    refine ⟨fun hv => reconsider_idle hc hfresh (hv.imp_right .inl), fun hrun hdue => ⟨fun hno => ?_, fun n h k l hmode hq => ?_,
      fun n h k l hmode hq hfirst => ?_⟩⟩
    · refine reconsider_idle hc hfresh (.inr (.inr (nextVisit_eq_none fun n hn => ?_)))
      refine Option.eq_none_iff_forall_ne_some.2 fun ⟨h, l⟩ hq => ?_
      obtain ⟨k, hk⟩ := hqualifies.1 hq
      exact hno n h k l (mem_visitOrder.1 hn) hk
    · exact visited hrun hdue (nextVisit_lock hmode (hqualifies.2 ⟨k, hq⟩))
    · refine visited hrun hdue (nextVisit_roundRobin hmode (hqualifies.2 ⟨k, hq⟩) fun n' h' l' hq' => ?_)
      obtain ⟨k', hk'⟩ := hqualifies.1 hq'
      rw [Fin.le_def, val_sub_position, val_sub_position]
      exact hfirst n' h' k' l' hk'

end Sys2Proof.Machine
end


section
/-! PROOFS. The completion of a conversion, its figures, and the dwell (R95, R105). -/

namespace Sys2Proof.Machine

open State

/-! ## The figures (R95) -/

/-- Rounding a signed dividend to the nearest, halves upward, as two bounds (0.6). -/
theorem roundDivInt_bounds (a : Int) {b : Nat} (hb : 0 < b) :
    2 * (b : Int) * roundDivInt a b ≤ 2 * a + b ∧ 2 * a + b < 2 * (b : Int) * roundDivInt a b + 2 * b := by
  have hb : (0 : Int) < 2 * b := by omega
  exact ⟨Int.mul_ediv_self_le hb.ne', Int.lt_mul_ediv_self_add hb⟩

/-- A signed quotient cut at 0 is the nearest integer, halves upward, and 0 below (R95). -/
theorem roundDivInt_toNat (a : Int) {b : Nat} (hb : 0 < b) :
    (2 * a < -b → (roundDivInt a b).toNat = 0) ∧
      (-(b : Int) ≤ 2 * a → -(b : Int) ≤ 2 * a - 2 * b * (roundDivInt a b).toNat ∧ 2 * a - 2 * b * (roundDivInt a b).toNat < b) := by
  obtain ⟨hlow, hhigh⟩ := roundDivInt_bounds a hb
  have hb : (0 : Int) < 2 * b := by omega
  refine ⟨fun h => Int.toNat_eq_zero.2 ?_, fun h => ?_⟩
  · exact (Int.ediv_neg_of_neg_of_pos (by omega) hb).le
  · have hq : 0 ≤ roundDivInt a b := Int.ediv_nonneg (by omega) hb.le
    rw [Int.toNat_of_nonneg hq]
    omega

/-- A figure is the rounded mean of its capped samples less the grounded one (R95). -/
theorem meanSample_eq (cap : Int) (samples : List Int) (grounded : Int) :
    meanSample cap samples grounded =
      (roundDivInt ((samples.map (min cap)).sum - samples.length * min cap grounded) samples.length).toNat := by
  rw [meanSample, List.sum_eq_foldl]

/-! ## The completion of a conversion (R95) -/

theorem samplesFit_iff {c : Conversion} {m : Samples} :
    samplesFit c m = true ↔
      m.current.length = c.averaging ∧ m.voltage.length = c.averaging ∧ m.offset.isSome = c.offsetCancel := by
  simp only [samplesFit, Bool.and_eq_true, beq_iff_eq, and_assoc]

/-- Without a conversion in flight that the samples fit there is no completion (logs 2, 13). -/
theorem completeConversion_unfit {s : State} {m : Samples} (h : ∀ c, s.meas.conversion = some c → samplesFit c m = false) :
    s.completeConversion m = s := by
  unfold completeConversion
  split
  · rename_i c hc
    rw [h c hc]
    rfl
  · rfl

/-- The state with the conversion in flight ended and its result handed to the Lease Engine (R95). -/
def handResult (s : State) (c : Conversion) (m : Samples) : State :=
  { s with
    engine := { s.engine with
      results := s.engine.results ++
        [⟨c.terminal, c.source, c.handle, c.rampStamp, (figuresOf m).current, (figuresOf m).voltage⟩] }
    meas := { s.meas with conversion := none } }

section
variable {s : State} {c : Conversion} {m : Samples} (hc : s.meas.conversion = some c) (hm : samplesFit c m = true)
include hc hm

/-- A verify's completion starts no dwell, nor does a STOPPED scan's (R105). -/
theorem completeConversion_no_dwell (h : c.source = .verify ∨ s.meas.running = false) :
    s.completeConversion m = (handResult s c m).reconsider := by
  simp only [completeConversion, hc, hm, if_true, handResult]
  obtain hsrc | hstopped := h
  · rw [if_neg (by rw [hsrc]; decide)]
  · simp only [startDwell, hstopped, Bool.false_eq_true, if_false, ite_self]

/-- The completion of a RUNNING scan's conversion starts the dwell (R105). -/
theorem completeConversion_dwell (hsrc : c.source = .scan) (hrun : s.meas.running = true) :
    s.completeConversion m =
      { handResult s c m with
        meas := { s.meas with conversion := none, dwell := some (msTicks s.meas.active.dwell), visitDue := false } }.reconsider := by
  simp only [completeConversion, hc, hm, if_true, handResult, hsrc, startDwell, hrun]

end

/-! ## The dwell (R105) -/

theorem dwellElapses_running {s : State} {d : Nat} (h : s.meas.dwell = some d) : s.dwellElapses = s.makeVisitDue.reconsider := by
  simp only [dwellElapses, h, Option.isSome_some, if_true]

theorem dwellElapses_none {s : State} (h : s.meas.dwell = none) : s.dwellElapses = s := by
  simp only [dwellElapses, h, Option.isSome_none, Bool.false_eq_true, if_false]

/-- Settles O51: a completion goes by its source and the scan, the dwell's end makes a visit due, and a figure is a rounded mean. -/
theorem conversionHandsResultAndDwellFollows : Obligations.ConversionHandsResultAndDwellFollows := by
  unfold Obligations.ConversionHandsResultAndDwellFollows
  have completed {s t : State} {m : Samples} (h : s.settle.completeConversion m = t) :
      exec (.conversionComplete m) s = .next t.driveOutputs := event_eq (act := fun s => s.completeConversion m) h
  refine ⟨fun s c m hc hcurrent hvoltage hoffset => ?completion, fun s m hunfit => completed (completeConversion_unfit fun c hc => ?unfit),
    fun s d hd => event_eq (dwellElapses_running hd), fun s hd => event_eq (dwellElapses_none hd),
    fun m hcurrent hvoltage => ?figures⟩
  case completion =>
    have hfit := samplesFit_iff.2 ⟨hcurrent, hvoltage, hoffset⟩
    exact ⟨fun h => completed (completeConversion_no_dwell hc hfit h),
      fun hsrc hrun => completed (completeConversion_dwell hc hfit hsrc hrun)⟩
  case unfit =>
    refine Bool.eq_false_iff.2 fun hfit => ?_
    obtain ⟨hcurrent, hvoltage, hoffset⟩ := samplesFit_iff.1 hfit
    obtain h | h | h := hunfit c hc
    exacts [h hcurrent, h hvoltage, h hoffset]
  case figures =>
    intro figure g
    have hfigure {cap : Int} {samples : List Int} (grounded : Int) (h : samples ≠ []) :
        figure cap samples grounded (meanSample cap samples grounded) := by
      rw [meanSample_eq]
      exact roundDivInt_toNat _ (List.length_pos_of_ne_nil h)
    exact ⟨hfigure _ hcurrent, hfigure _ hvoltage⟩

end Sys2Proof.Machine
end

section
/-! PROOFS. Trip points: how they are set, which notices they match, and how they fire (R108, R115, R155 to R157). -/

namespace Sys2Proof.Machine

open State

/-! ## The trip table (R155) -/

/-- The number of a trip condition (11.5). -/
def TripCondition.number : TripCondition → Nat
  | .fault => 0 | .close => 1 | .over => 2

theorem tripCondition_eq_some {n : Nat} {v : TripCondition} :
    ([TripCondition.fault, .close, .over][n]?) = some v ↔ n = v.number := by
  match n with
  | 0 | 1 | 2 | n + 3 => cases v <;> simp [TripCondition.number]

/-- What R155 asks of the parameters of a TRIP SET. -/
def GoodTrip (p : TripSetParams) : Prop :=
  p.entry.toNat ≤ 3 ∧ p.terminal.toNat ≤ 15 ∧ p.condition.toNat ≤ 2 ∧ p.threshold.toNat ≤ 700000 ∧ p.armed.toNat ≤ 1

/-- The entry a TRIP SET writes, as the device reads it; its fired mark is clear (R155). -/
def TripRead (p : TripSetParams) (n : Fin 4) (e : TripEntry) : Prop :=
  n.val = p.entry.toNat ∧ e.terminal.val = p.terminal.toNat ∧ p.condition.toNat = e.condition.number ∧
    e.threshold = p.threshold.toNat ∧ e.armed = decide (p.armed.toNat = 1) ∧ e.fired = false

/-- A TRIP SET passes R155 exactly when its parameters are good, and is then read as it stands. -/
theorem tripSetRequest?_eq_some {p : TripSetParams} {n : Fin 4} {e : TripEntry} :
    tripSetRequest? p = some (n, e) ↔ GoodTrip p ∧ TripRead p n e := by
  obtain ⟨terminal, condition, threshold, armed, fired⟩ := e
  have hnumber : condition.number ≤ 2 := by cases condition <;> decide
  unfold tripSetRequest?
  simp only [Option.bind_eq_bind, Option.bind_eq_some_iff, index?_eq_some, inRange?_eq_some, choice?_flag, tripCondition_eq_some,
    Option.pure_def, Option.some.injEq, Prod.mk.injEq, TripEntry.mk.injEq]
  constructor
  · rintro ⟨_, hentry, _, hterminal, _, hcondition, _, ⟨-, hthreshold, rfl⟩, _, ⟨harmed, rfl⟩, rfl, rfl, rfl, rfl, rfl, rfl⟩
    exact ⟨⟨by omega, by omega, by omega, hthreshold, harmed⟩, hentry, hterminal, hcondition, rfl, rfl, rfl⟩
  · rintro ⟨⟨-, -, -, hthreshold, harmed⟩, hentry, hterminal, hcondition, rfl, rfl, rfl⟩
    exact ⟨_, hentry, _, hterminal, _, hcondition, _, ⟨Nat.zero_le _, hthreshold, rfl⟩, _, ⟨harmed, rfl⟩, rfl, rfl, rfl, rfl, rfl, rfl⟩

theorem tripSetRequest?_isSome_iff {p : TripSetParams} : (tripSetRequest? p).isSome = true ↔ GoodTrip p := by
  rw [Option.isSome_iff_exists]
  refine ⟨fun ⟨ne, h⟩ => (tripSetRequest?_eq_some.1 h).1, fun hp => ?_⟩
  obtain ⟨hentry, hterminal, hcondition, -⟩ := id hp
  obtain ⟨v, hv⟩ : ∃ v : TripCondition, p.condition.toNat = v.number := by
    obtain h | h | h : p.condition.toNat = 0 ∨ p.condition.toNat = 1 ∨ p.condition.toNat = 2 := by omega
    exacts [⟨.fault, h⟩, ⟨.close, h⟩, ⟨.over, h⟩]
  exact ⟨(⟨p.entry.toNat, by omega⟩, ⟨⟨p.terminal.toNat, by omega⟩, v, _, _, _⟩),
    tripSetRequest?_eq_some.2 ⟨hp, rfl, rfl, hv, rfl, rfl, rfl⟩⟩

/-! ## Taking a notice (R108, R115, log 17) -/

theorem isFault_iff {n : PoolNotice} : n.isFault = true ↔ ∃ m kind closed, n = .fault m kind closed := by
  cases n <;> simp [PoolNotice.isFault]

theorem takeFaultNotice_none {s : State} (h : ∀ n ∈ s.pool.notices, n.isFault = false) : s.takeFaultNotice = s := by
  have hfind : s.pool.notices.find? (·.isFault) = none := List.find?_eq_none.2 fun n hn => by simp [h n hn]
  simp only [takeFaultNotice, hfind]

/-- The oldest fault notice is taken, whatever scan results were handed before it (R115). -/
theorem takeFaultNotice_eq {s : State} {n : PoolNotice} {before after : List PoolNotice}
    (hn : s.pool.notices = before ++ n :: after) (hbefore : ∀ m ∈ before, m.isFault = false) (hfault : n.isFault = true) :
    s.takeFaultNotice = { s with pool := { s.pool with notices := before ++ after } }.matchNotice n := by
  have hfind : s.pool.notices.find? (·.isFault) = some n :=
    List.find?_eq_some_iff_append.2 ⟨hfault, before, after, hn, fun m hm => by simp [hbefore m hm]⟩
  have hnot : n ∉ before := fun hm => Bool.false_ne_true ((hbefore n hm).symm.trans hfault)
  have herase : s.pool.notices.erase n = before ++ after := by
    rw [hn, List.erase_append_right _ hnot, List.erase_cons_head]
  simp only [takeFaultNotice, hfind, herase]

/-- A scan result is taken when it is the oldest notice (R108). -/
theorem takeScanResult_eq {s : State} {m : Fin 16} {current : Nat} {rest : List PoolNotice}
    (hn : s.pool.notices = .scan m current :: rest) :
    s.takeScanResult = { s with pool := { s.pool with notices := rest } }.matchNotice (.scan m current) := by
  simp only [takeScanResult, hn, PoolNotice.isFault, Bool.false_eq_true, if_false]

theorem takeScanResult_none {s : State} (h : ∀ m current rest, s.pool.notices ≠ .scan m current :: rest) : s.takeScanResult = s := by
  unfold takeScanResult
  split
  · rename_i n rest hn
    cases n with
    | fault m kind closed => rfl
    | scan m current => exact absurd hn (h m current rest)
  · rfl

/-! ## Which entries match (R156) -/

section
variable {e : TripEntry} {m : Fin 16}

theorem matched_fault {kind : FaultKind} {closed : Bool} :
    e.matched (.fault m kind closed) = true ↔
      e.armed = true ∧ e.terminal = m ∧ (e.condition = .fault ∨ (e.condition = .close ∧ closed = true)) := by
  simp only [TripEntry.matched, Bool.and_eq_true, Bool.or_eq_true, beq_iff_eq, and_assoc]

theorem matched_scan {current : Nat} :
    e.matched (.scan m current) = true ↔ e.armed = true ∧ e.terminal = m ∧ e.condition = .over ∧ e.threshold < current := by
  simp only [TripEntry.matched, Bool.and_eq_true, beq_iff_eq, decide_eq_true_iff, and_assoc]

end

/-- Settles O60: the requests by their bodies, each row by the notice it takes, and a match field by field. -/
theorem tripEntriesMatchAndFire : Obligations.TripEntriesMatchAndFire := by
  unfold Obligations.TripEntriesMatchAndFire
  refine ⟨fun p => ⟨tripSetRequest?_isSome_iff, fun n e h => ?read⟩, fun x p s ha => ?set, fun x entry s ha => ?fire,
    fun s n => rfl, fun s => ?rows, fun n => isFault_iff, fun s n => rfl, fun e m kind closed current => ⟨matched_fault, matched_scan⟩⟩
  case read =>
    obtain ⟨hentry, hterminal, hcondition, hrest⟩ := (tripSetRequest?_eq_some.1 h).2
    refine ⟨hentry, hterminal, hcondition.trans ?_, hrest⟩
    cases e.condition <;> rfl
  case set =>
    intro s1 i
    have answer {r : Reply} (h : tripSetBody p s1 = r) : exec i s = .next (r.state.respond i x r.status r.payload) :=
      request_reply rfl ha h
    exact ⟨fun hp => answer (r := refuse s1 .badParam) (by simp only [tripSetBody, hp]), fun n e hp =>
      answer (r := accept { s1 with pool := { s1.pool with trips := s1.pool.trips.set n e } }) (by simp only [tripSetBody, hp])⟩
  case fire =>
    intro s1 i
    have answer {r : Reply} (h : tripFireBody entry s1 = r) : exec i s = .next (r.state.respond i x r.status r.payload) :=
      request_reply rfl ha h
    refine ⟨fun h => answer (r := refuse s1 .badParam) ?_, fun n hn => answer (r := accept (s1.fireTrip n)) ?_⟩
    · simp only [tripFireBody, index?_eq_none.2 h]
    · simp only [tripFireBody, index?_eq_some.2 hn.symm]
  case rows =>
    exact ⟨fun h => event_eq (takeFaultNotice_none h),
      fun before n after hn hbefore hfault _ => event_eq (takeFaultNotice_eq hn hbefore hfault),
      fun m v rest hn => event_eq (takeScanResult_eq hn), fun h => event_eq (takeScanResult_none h)⟩

end Sys2Proof.Machine
end

section
/-! PROOFS. Dispatch and the seat checks (R131, R137, R152, R167), and TOUCH, which only the first of them can refuse (R134, R160). -/

namespace Sys2Proof.Machine

open State

/-! ## Dispatch (R167, log 1) -/

/-- A frame is dispatched when it is the oldest of the queue, or arrives at an empty one while its seat may write (log 1). -/
theorem mayDispatch_iff {s : State} {x : Seat} {f : Frame} :
    s.mayDispatch x (some f) = true ↔
      (s.port.requestQueue = [] ∧ s.busy x = false ∧ s.port.resetLow = false) ∨ ∃ rest, s.port.requestQueue = f :: rest := by
  unfold mayDispatch
  split
  case h_1 hq => simp [hq]
  case h_2 g rest hq => simp [hq]

theorem lapsed_iff {s : State} {x : Seat} : s.lapsed x = true ↔ (s.seat x).keepalive = .lapsed := beq_iff_eq

theorem held_iff {s : State} : s.held = true ↔ s.pool.state ≠ .run := bne_iff_ne

/-! ## The seat checks, one branch each (R131, R137, R152) -/

section
variable {s : State} {x : Seat} {c : RequestClass}

theorem seatCheck_disabled (he : (s.seat x).enabled = false) : s.seatCheck x c = some .notPermitted := by
  simp [seatCheck, he]

variable (he : (s.seat x).enabled = true)
include he

theorem seatCheck_notPermitted (hc : c.supervisor = true) (hx : x ≠ .s) : s.seatCheck x c = some .notPermitted := by
  simp [seatCheck, he, hc, hx]

variable (hp : c.supervisor = false ∨ x = .s)
include hp

theorem seatCheck_held (hc : c.heldInHold = true) (hx : x ≠ .s) (hh : s.held = true) : s.seatCheck x c = some .held := by
  have hp : c.supervisor = false := hp.resolve_right hx
  simp [seatCheck, he, hp, hc, hx, hh]

variable (hh : c.heldInHold = false ∨ x = .s ∨ s.held = false)
include hh

theorem seatCheck_lapsed (hc : c.whenLapsed = false) (hl : s.lapsed x = true) : s.seatCheck x c = some .lapsed := by
  have hp : (c.supervisor && x != .s) = false := by obtain h | h := hp <;> simp [h]
  have hh : (c.heldInHold && x != .s && s.held) = false := by obtain h | h | h := hh <;> simp [h]
  simp [seatCheck, he, hp, hh, hc, hl]

theorem seatCheck_passes (hl : c.whenLapsed = true ∨ s.lapsed x = false) : s.seatCheck x c = none := by
  have hp : (c.supervisor && x != .s) = false := by obtain h | h := hp <;> simp [h]
  have hh : (c.heldInHold && x != .s && s.held) = false := by obtain h | h | h := hh <;> simp [h]
  have hl : (!c.whenLapsed && s.lapsed x) = false := by obtain h | h := hl <;> simp [h]
  simp [seatCheck, he, hp, hh, hl]

end

/-! ## The class of a request, by its code (11.5) -/

/-- What the seat checks ask of a request, told by its code alone. -/
theorem class_by_code {i : Instr} {x : Seat} {c : RequestClass} (hi : requestOf i = some (x, c)) :
    c.supervisor = decide (0x20 ≤ (codeOf i).toNat) ∧
      c.heldInHold = decide ((codeOf i).toNat ∈ [0x10, 0x11, 0x12, 0x13, 0x14, 0x19]) ∧
      c.whenLapsed = !decide ((codeOf i).toNat ∈ [0x10, 0x11, 0x12, 0x13, 0x14, 0x15, 0x19]) ∧
      refusedPayload i = if (codeOf i).toNat = 0x10 then [0xFF#8, 0x00#8] else [] := by
  cases i
  case events x ack mask => cases mask <;> cases hi <;> exact ⟨rfl, rfl, rfl, rfl⟩
  all_goals cases hi
  all_goals exact ⟨rfl, rfl, rfl, rfl⟩

/-- Settles O18: the response is that of the first seat check that fails, and the class of a request is that of its code. -/
theorem seatChecksGiveTheResponse : Obligations.SeatChecksGiveTheResponse := by
  unfold Obligations.SeatChecksGiveTheResponse
  refine ⟨fun s => ⟨fun x => lapsed_iff, held_iff⟩, fun s => rfl, fun s x f => mayDispatch_iff,
    fun i x c s hi hd => ?undispatched, fun i x c s hi hd => ?checked⟩
  case undispatched =>
    obtain ⟨body, -, hexec⟩ := exec_request hi
    rw [hexec, request_undispatched hd]
  case checked =>
    intro s1 code payload supervisor heldInHold refusedLapsed
    obtain ⟨hsupervisor, hheld, hlapsed, hpayload⟩ := class_by_code hi
    obtain ⟨body, -, hexec⟩ := exec_request hi
    have refused {st : Status} (h : s1.seatCheck x c = some st) : exec i s = .next (s1.respond i x st payload) := by
      rw [hexec, request_refused hd h, hpayload]
    refine ⟨fun he => refused (seatCheck_disabled he), fun he =>
      ⟨fun hp hx => refused (seatCheck_notPermitted he (hsupervisor.trans (decide_eq_true hp)) hx), fun hp => ?_⟩⟩
    have hp : c.supervisor = false ∨ x = .s := hp.imp_left fun h => hsupervisor.trans (decide_eq_false h)
    refine ⟨fun hh hx hhold => refused (seatCheck_held he hp (hheld.trans (decide_eq_true hh)) hx hhold), fun hh => ?_⟩
    have hh : c.heldInHold = false ∨ x = .s ∨ s1.held = false := hh.imp_left fun h => hheld.trans (decide_eq_false h)
    refine ⟨fun hr hl => refused (seatCheck_lapsed he hp hh (hlapsed.trans (congrArg not (decide_eq_true hr))) hl),
      fun hr => ⟨x, c, hi, hd, seatCheck_passes he hp hh (hr.imp_left fun h => ?_)⟩⟩
    exact hlapsed.trans (congrArg not (decide_eq_false h))

/-! ## TOUCH (R131, R134, R160) -/

/-- TOUCH passes the hold and lapse checks: only a disabled seat is refused it. -/
theorem seatCheck_touch {s : State} {x : Seat} (he : (s.seat x).enabled = true) : s.seatCheck x readingClass = none :=
  seatCheck_passes he (.inl rfl) (.inl rfl) (.inl rfl)

theorem has_eq_decide (set : EventSet) (v : Event) : set.has v = decide (set &&& v.mark ≠ 0#16) := by
  simp only [EventSet.has, bne, ne_eq, decide_not, Bool.beq_eq_decide_eq]

/-- The end of a level event after a write to the seat is one write: an acknowledged event clears (R160). -/
theorem endLevel_setSeat (s : State) (x : Seat) (e : SeatEntry) (v : Event) :
    let ended := decide (e.acked &&& v.mark ≠ 0#16)
    (s.setSeat x e).endLevel x v = s.setSeat x { e with
      latched := if ended then e.latched &&& ~~~v.mark else e.latched
      acked := if ended then e.acked &&& ~~~v.mark else e.acked } := by
  rw [← has_eq_decide]
  cases h : e.acked.has v <;> simp [endLevel, h]

section
variable {s : State} {x : Seat}

theorem touchBody_disarmed (hk : (s.seat x).keepalive = .disarmed) : touchBody x s = accept s := by
  simp only [touchBody, hk]

theorem touchBody_armed {n r u : Nat} (hk : (s.seat x).keepalive = .armed r u) (hn : (s.seat x).period = some n) (hpos : 0 < n) :
    touchBody x s = accept (s.setSeat x { s.seat x with keepalive := .armed n 0 }) := by
  simp only [touchBody, hk, setKeepalive, period, hn, Option.getD_some, Keepalive.ofPeriod, if_neg hpos.ne']

theorem touchBody_lapsed {n : Nat} (hk : (s.seat x).keepalive = .lapsed) (hn : (s.seat x).period = some n) :
    touchBody x s = accept ((s.setSeat x { s.seat x with keepalive := .ofPeriod n }).endLevel x .lapsed) := by
  simp only [touchBody, hk, setKeepalive, period, hn, Option.getD_some]

end

/-- Settles O43: `touchBody` by keepalive state, and only the enable mark is asked of the seat. -/
theorem touchActsByKeepaliveState : Obligations.TouchActsByKeepaliveState := by
  unfold Obligations.TouchActsByKeepaliveState
  refine ⟨fun x s ha => ?acts, fun x s hd he => ⟨x, readingClass, rfl, hd, seatCheck_touch he⟩⟩
  case acts =>
    intro s1 i e ended
    have answer {t : State} (h : touchBody x s1 = accept t) : exec i s = .next (t.respond i x .ok []) :=
      request_reply rfl ha h
    refine ⟨fun hk => answer (touchBody_disarmed hk), fun n hn =>
      ⟨fun r u hk hpos => answer (touchBody_armed hk hn hpos), fun hk => answer ?_⟩⟩
    rw [touchBody_lapsed hk hn, endLevel_setSeat]
    rfl

end Sys2Proof.Machine
end

section
/-! PROOFS. SEAT SET: its parameters, the order of its checks, and the one write an accepted one makes (R129, R130). -/

namespace Sys2Proof.Machine

open State

/-! ## The parameters (R129 check 1, logs 33, 34) -/

/-- An optional two-valued field: free when absent, else checked and kept (R172). -/
theorem optional?_choice?_eq_some {α : Type} {present : Bool} {zero one : α} {v : Byte} {o : Option α} :
    optional? present (choice? zero one v) = some o ↔
      (present = true → v.toNat ≤ 1) ∧ o = if present = true then some (if v.toNat = 1 then one else zero) else none := by
  rw [optional?_eq_some]
  cases present
  · simp
  · simp only [choice?_eq_some, Bool.true_eq_false, false_and, false_or, true_and, if_true, forall_const]
    constructor
    · rintro ⟨a, ⟨h, rfl⟩ | ⟨h, rfl⟩, rfl⟩ <;> simp [h]
    · rintro ⟨h, rfl⟩
      obtain h | h : v.toNat = 0 ∨ v.toNat = 1 := by omega
      all_goals simp [h]

/-- What R129 asks of the parameters of a SEAT SET (logs 33, 34). -/
def GoodSeatSet (p : SeatSetParams) : Prop :=
  1 ≤ p.seat.toNat ∧ p.seat.toNat ≤ 4 ∧ 1 ≤ p.presence.toNat ∧ p.presence.toNat < 64 ∧
    (p.presence.getLsbD 0 = true → 0x08 ≤ p.address.toNat ∧ p.address.toNat ≤ 0x77) ∧
    (p.presence.getLsbD 1 = true → p.enable.toNat ≤ 1) ∧ (p.presence.getLsbD 2 = true → p.leaseQuota.toNat ≤ 32) ∧
    (p.presence.getLsbD 3 = true → p.cellQuota.toNat ≤ 24) ∧ (p.presence.getLsbD 5 = true → p.policy.toNat ≤ 1)

/-- The parameters of a SEAT SET of a seat, as the device reads them (11.5). -/
def seatSetAsRead (p : SeatSetParams) (seat : Seat) : SeatSetRequest :=
  { seat
    address := if p.presence.getLsbD 0 = true then some (BitVec.ofNat 7 p.address.toNat) else none
    enable := if p.presence.getLsbD 1 = true then some (decide (p.enable.toNat = 1)) else none
    leaseQuota := if p.presence.getLsbD 2 = true then some p.leaseQuota.toNat else none
    cellQuota := if p.presence.getLsbD 3 = true then some p.cellQuota.toNat else none
    period := if p.presence.getLsbD 4 = true then some p.period.toNat else none
    policy := if p.presence.getLsbD 5 = true then some (if p.policy.toNat = 1 then .closeAll else .suspendAll) else none }

/-- Seat S is the one with wire number 0 (11.5). -/
theorem eq_s_iff {x : Seat} : x = .s ↔ x.idx.val = 0 := (idx_inj (y := .s)).symm

/-- Every wire number up to 4 is a seat's (11.5). -/
theorem exists_seat_of_le {n : Nat} (h : n ≤ 4) : ∃ x : Seat, x.idx.val = n := by
  have hn : n < Seat.all.length := Nat.lt_succ_of_le h
  exact ⟨Seat.all[n], (seatAll_eq_some.1 (List.getElem?_eq_getElem hn)).symm⟩

/-- A SEAT SET passes check 1 of R129 exactly when its parameters are good, and is then read as it stands. -/
theorem seatSetRequest?_eq_some {p : SeatSetParams} {q : SeatSetRequest} :
    seatSetRequest? p = some q ↔ GoodSeatSet p ∧ q.seat.idx.val = p.seat.toNat ∧ q = seatSetAsRead p q.seat := by
  have hzero : p.presence = 0#8 ↔ p.presence.toNat = 0 := by rw [← BitVec.toNat_inj]; rfl
  have hperiod : p.period.toNat ≤ 255 := by omega
  unfold seatSetRequest?
  simp only [Option.bind_eq_bind, Option.bind_eq_some_iff, seatAll_eq_some, require_eq_some, optional?_inRange?_eq_some,
    optional?_choice?_eq_some, bit, Option.pure_def, Option.some.injEq, Bool.and_eq_true, bne_iff_ne, eq_s_iff, ne_eq,
    decide_eq_true_iff, hzero]
  constructor
  · rintro ⟨seat, hseat, _, htenant, _, ⟨hpresent, hbits⟩, _, ⟨haddress, rfl⟩, _, ⟨henable, rfl⟩, _, ⟨hlease, rfl⟩, _,
      ⟨hcell, rfl⟩, _, ⟨-, rfl⟩, _, ⟨hpolicy, rfl⟩, rfl⟩
    refine ⟨⟨by omega, by omega, by omega, hbits, haddress, henable, fun h => (hlease h).2, fun h => (hcell h).2, hpolicy⟩,
      hseat.symm, ?_⟩
    simp only [seatSetAsRead, apply_ite (Option.map _), Option.map_some, Option.map_none, Bool.if_false_right, Bool.and_true]
  · rintro ⟨⟨hlow, hhigh, hpresent, hbits, haddress, henable, hlease, hcell, hpolicy⟩, hseat, hq⟩
    refine ⟨q.seat, hseat.symm, (), by omega, (), ⟨by omega, hbits⟩, _, ⟨haddress, rfl⟩, _, ⟨henable, rfl⟩, _,
      ⟨fun h => ⟨Nat.zero_le _, hlease h⟩, rfl⟩, _, ⟨fun h => ⟨Nat.zero_le _, hcell h⟩, rfl⟩, _,
      ⟨fun _ => ⟨Nat.zero_le _, hperiod⟩, rfl⟩, _, ⟨hpolicy, rfl⟩, Eq.trans ?_ hq.symm⟩
    simp only [seatSetAsRead, apply_ite (Option.map _), Option.map_some, Option.map_none, Bool.if_false_right, Bool.and_true]

theorem seatSetRequest?_isSome_iff {p : SeatSetParams} : (seatSetRequest? p).isSome = true ↔ GoodSeatSet p := by
  rw [Option.isSome_iff_exists]
  refine ⟨fun ⟨q, hq⟩ => (seatSetRequest?_eq_some.1 hq).1, fun hp => ?_⟩
  obtain ⟨-, hhigh, -⟩ := id hp
  obtain ⟨x, hx⟩ := exists_seat_of_le hhigh
  exact ⟨seatSetAsRead p x, seatSetRequest?_eq_some.2 ⟨hp, hx, rfl⟩⟩

/-! ## Checks 2 to 4 (R129) -/

/-- Check 2: an enabled seat at the address of another enabled one. -/
def AddressClash (s : State) (q : SeatSetRequest) : Prop :=
  q.enable.getD (s.seat q.seat).enabled = true ∧
    ∃ y, y ≠ q.seat ∧ (s.seat y).enabled = true ∧ (s.seat y).address = q.address.getD (s.seat q.seat).address

/-- Check 3: a quota below what the seat holds. -/
def QuotaTooLow (s : State) (q : SeatSetRequest) : Prop :=
  (∃ n, q.leaseQuota = some n ∧ n < s.recordCount q.seat) ∨ ∃ n, q.cellQuota = some n ∧ n < s.allottedCount q.seat

/-- Check 4: a seat to be disabled that holds a record or has a frame under way (log 16). -/
def DisabledInUse (s : State) (q : SeatSetRequest) : Prop :=
  q.enable = some false ∧ (s.recordCount q.seat ≠ 0 ∨ s.busy q.seat = true)

section
variable {s : State} {q : SeatSetRequest}

theorem mem_seatAll (x : Seat) : x ∈ Seat.all := by cases x <;> decide

theorem addressClash_iff :
    (q.enable.getD (s.seat q.seat).enabled && s.addressTaken q.seat (q.address.getD (s.seat q.seat).address)) = true ↔
      AddressClash s q := by
  simp only [addressTaken, AddressClash, Bool.and_eq_true, List.any_eq_true, mem_seatAll, true_and, bne_iff_ne, beq_iff_eq, and_assoc]

theorem disabledInUse_iff :
    (q.enable == some false && (s.recordCount q.seat != 0 || s.busy q.seat)) = true ↔ DisabledInUse s q := by
  simp only [DisabledInUse, Bool.and_eq_true, Bool.or_eq_true, beq_iff_eq, bne_iff_ne]

theorem quotaTooLow_iff :
    (q.leaseQuota.any fun n => n < s.recordCount q.seat) = true ∨ (q.cellQuota.any fun n => n < s.allottedCount q.seat) = true ↔
      QuotaTooLow s q := by
  simp only [QuotaTooLow, Option.any_eq_true, decide_eq_true_iff]

theorem seatSetRefusal_badParam (h : AddressClash s q ∨ QuotaTooLow s q) : s.seatSetRefusal q = some .badParam := by
  rw [← addressClash_iff, ← quotaTooLow_iff] at h
  unfold seatSetRefusal
  simp only
  split
  · rfl
  · rename_i hclash
    obtain h | h := h.resolve_left hclash
    · rw [if_pos h]
    · rw [if_pos h, ite_self]

/-- Past the address and the quotas the use of a seat to be disabled decides. -/
theorem seatSetRefusal_of_checked (hclash : ¬AddressClash s q) (hquota : ¬QuotaTooLow s q) :
    (DisabledInUse s q → s.seatSetRefusal q = some .seatBusy) ∧ (¬DisabledInUse s q → s.seatSetRefusal q = none) := by
  rw [← addressClash_iff] at hclash
  rw [← quotaTooLow_iff, not_or] at hquota
  obtain ⟨hlease, hcell⟩ := hquota
  simp only [← disabledInUse_iff, seatSetRefusal, if_neg hclash, if_neg hlease, if_neg hcell]
  exact ⟨fun h => if_pos h, fun h => if_neg h⟩

end

/-! ## What an accepted one writes (R130) -/

/-- The entry of the seat with the fields carried, its enable, keepalive and event set apart (R130). -/
def SeatSetRequest.applied (q : SeatSetRequest) (e : SeatEntry) : SeatEntry :=
  { e with
    address := q.address.getD e.address, leaseQuota := q.leaseQuota.getD e.leaseQuota
    cellQuota := q.cellQuota.getD e.cellQuota, period := some (q.period.getD (e.period.getD 0))
    policy := some (q.policy.getD (e.policy.getD .suspendAll)) }

/-- The write of a seat's entry, with one rescan when it raises a quota (R130). -/
def State.writeSeat (s : State) (x : Seat) (f : SeatEntry) : State :=
  (s.setSeat x f).rescanIf (decide ((s.seat x).leaseQuota < f.leaseQuota) || decide ((s.seat x).cellQuota < f.cellQuota))

theorem any_lt_eq (o : Option Nat) (n : Nat) : (o.any fun m => decide (n < m)) = decide (n < o.getD n) := by
  cases o <;> simp

section
variable {s : State} {q : SeatSetRequest} {e : SeatEntry}

theorem keepalive_enabling (h : q.enable = some true) (he : e.enabled = false) :
    q.keepalive e = .ofPeriod (q.period.getD (e.period.getD 0)) := by
  simp only [SeatSetRequest.keepalive, h, he]

theorem keepalive_left_disabled (h : q.enable = none) (he : e.enabled = false) : q.keepalive e = .disarmed := by
  simp only [SeatSetRequest.keepalive, h, he]

/-- A seat that stays enabled takes a period that it is given, unless it is LAPSED. -/
theorem keepalive_left_enabled (h : q.enable ≠ some false) (he : e.enabled = true) :
    q.keepalive e =
      if q.period.isSome && e.keepalive != .lapsed then .ofPeriod (q.period.getD (e.period.getD 0)) else e.keepalive := by
  match hq : q.enable, h with
  | none, _ | some true, _ => simp only [SeatSetRequest.keepalive, hq, he]

/-- A disabled seat loses its keepalive and its event set. -/
theorem applySeatSet_disabling (h : q.enable = some false) :
    s.applySeatSet q = s.writeSeat q.seat
      { q.applied (s.seat q.seat) with enabled := false, keepalive := .disarmed, latched := 0#16, acked := 0#16 } := by
  simp only [applySeatSet, any_lt_eq, SeatSetRequest.keepalive, h, if_true, clearEvents, seat_setSeat, setSeat_setSeat]
  rfl

/-- A seat enabled in HOLD has HOLD arise. -/
theorem applySeatSet_enabling_held (h : q.enable = some true) (he : (s.seat q.seat).enabled = false) (hh : s.held = true) :
    s.applySeatSet q = s.writeSeat q.seat
      { q.applied (s.seat q.seat) with
        enabled := true, keepalive := .ofPeriod (q.period.getD ((s.seat q.seat).period.getD 0))
        latched := (s.seat q.seat).latched ||| Event.hold.mark, acked := (s.seat q.seat).acked &&& ~~~Event.hold.mark } := by
  have henable : some true ≠ some false := by decide
  simp only [applySeatSet, any_lt_eq, keepalive_enabling h he, h, he, hh, if_neg henable, Option.getD_some, raiseLevel, seat_setSeat,
    setSeat_setSeat, if_true, true_and]
  rfl

/-- In every other case the event set stays. -/
theorem applySeatSet_events_stay (h : q.enable ≠ some false)
    (hh : ¬(q.enable = some true ∧ (s.seat q.seat).enabled = false ∧ s.held = true)) :
    s.applySeatSet q = s.writeSeat q.seat
      { q.applied (s.seat q.seat) with
        enabled := q.enable.getD (s.seat q.seat).enabled, keepalive := q.keepalive (s.seat q.seat) } := by
  simp only [applySeatSet, any_lt_eq, if_neg h, if_neg hh]
  rfl

end

/-- Settles O46: the parameters field by field, the checks of `seatSetRefusal` in order, and the write of `applySeatSet` by enable. -/
theorem seatSetChecksAndApplies : Obligations.SeatSetChecksAndApplies := by
  unfold Obligations.SeatSetChecksAndApplies
  refine ⟨fun p => ⟨seatSetRequest?_isSome_iff, fun q hq => ?read⟩, fun x p s ha => ?set⟩
  case read =>
    obtain ⟨-, hseat, hread⟩ := seatSetRequest?_eq_some.1 hq
    generalize q.seat = y at hseat hread
    subst hread
    exact ⟨hseat, rfl, rfl, rfl, rfl, rfl, rfl⟩
  case set =>
    intro s1 i refused
    have answer {r : Reply} (h : seatSetBody p s1 = r) : exec i s = .next (r.state.respond i x r.status r.payload) :=
      request_reply rfl ha h
    refine ⟨fun hp => answer (r := refuse s1 .badParam) (by simp only [seatSetBody, hp]), fun q hp => ?_⟩
    intro e clash tooLow inUse
    have refuses {st : Status} (h : s1.seatSetRefusal q = some st) : refused st :=
      answer (r := refuse s1 st) (by simp only [seatSetBody, hp, h])
    refine ⟨fun h => refuses (seatSetRefusal_badParam (.inl h)), fun h => refuses (seatSetRefusal_badParam (.inr h)),
      fun hclash hquota huse => refuses ((seatSetRefusal_of_checked hclash hquota).1 huse), fun hclash hquota huse => ?_⟩
    intro period fresh applied after
    have writes {f : SeatEntry} (h : s1.applySeatSet q = s1.writeSeat q.seat f) : after f :=
      answer (r := accept (s1.writeSeat q.seat f))
        (by simp only [seatSetBody, hp, (seatSetRefusal_of_checked hclash hquota).2 huse, h])
    have stays (h : q.enable ≠ some false) (hh : ¬(q.enable = some true ∧ e.enabled = false ∧ s1.held = true)) {k : Keepalive}
        (hk : q.keepalive e = k) : after { applied with enabled := q.enable.getD e.enabled, keepalive := k } :=
      writes (hk ▸ applySeatSet_events_stay h hh)
    refine ⟨fun h => writes (applySeatSet_disabling h), fun h he hh => ?enabling,
      fun h he hh => writes (applySeatSet_enabling_held h he hh), fun h he => ?enabled, fun h he => ?disabled⟩
    case enabling =>
      have hf := stays (by simp [h]) (by simp [hh]) (keepalive_enabling h he)
      rwa [h] at hf
    case enabled =>
      have hget : q.enable.getD e.enabled = e.enabled := by
        match hq : q.enable, h with
        | none, _ => rfl
        | some true, _ => exact he.symm
      have hf := stays h (by simp [he]) (keepalive_left_enabled h he)
      rw [hget] at hf
      refine ⟨fun hp hk => ?_, fun hk => ?_⟩
      · rwa [if_pos (by simp [Option.isSome_iff_ne_none, hp, hk])] at hf
      · rwa [if_neg (by obtain h | h := hk <;> simp [h])] at hf
    case disabled =>
      have hf := stays (by simp [h]) (by simp [h]) (keepalive_left_disabled h he)
      rwa [h] at hf

end Sys2Proof.Machine
end

section
/-! PROOFS. EVENTS: the bits of a set, the marks an acknowledgement leaves, and what the request answers and writes (R153, R159 to R162). -/

namespace Sys2Proof.Machine

open State

/-! ## The bits of a set of events (11.5) -/

/-- The bit number of an event (11.5, Event set). -/
def Event.index : Event → Nat
  | .started => 0 | .admitted => 1 | .suspended => 2 | .closed => 3 | .lapsed => 4
  | .hold => 5 | .bankFault => 6 | .testDone => 7 | .trip => 8

theorem index_lt (v : Event) : v.index < 16 := by cases v <;> decide

theorem mark_eq_shift (v : Event) : v.mark = 1#16 <<< v.index := by cases v <;> rfl

theorem has_eq_getLsbD (a : EventSet) (v : Event) : a.has v = a.getLsbD v.index := by
  have htwo : v.mark = BitVec.twoPow 16 v.index := by cases v <;> rfl
  have hne : BitVec.twoPow 16 v.index ≠ 0#16 := by cases v <;> decide
  rw [EventSet.has, htwo, BitVec.and_twoPow]
  cases a.getLsbD v.index <;> simp [hne]

section
variable (a b : EventSet) (v w : Event)

@[simp] theorem has_and : (a &&& b).has v = (a.has v && b.has v) := by simp only [has_eq_getLsbD, BitVec.getLsbD_and]

@[simp] theorem has_or : (a ||| b).has v = (a.has v || b.has v) := by simp only [has_eq_getLsbD, BitVec.getLsbD_or]

@[simp] theorem has_not : (~~~a).has v = !a.has v := by simp [has_eq_getLsbD, index_lt]

@[simp] theorem has_mark : v.mark.has w = decide (v = w) := by cases v <;> cases w <;> rfl

end

/-- The level events (10.1). -/
abbrev levelEvents : List Event := [.lapsed, .hold, .bankFault]

/-- Every event that is not a level event is an edge event (10.1). -/
@[simp] theorem has_edgeMarks (v : Event) : edgeMarks.has v = decide (v ∉ levelEvents) := by cases v <;> rfl

/-- No event has an undefined bit (11.5). -/
theorem mark_defined (v : Event) : v.mark &&& undefinedMarks = 0#16 := by cases v <;> rfl

theorem or_undefined {b : EventSet} (a : EventSet) (hb : b &&& undefinedMarks = 0#16) :
    (a ||| b) &&& undefinedMarks = a &&& undefinedMarks := by
  rw [BitVec.and_comm, BitVec.and_or_distrib_left, BitVec.and_comm _ b, hb, BitVec.or_zero, BitVec.and_comm]

theorem clear_undefined {b : EventSet} (a : EventSet) (hb : b &&& undefinedMarks = 0#16) :
    a &&& ~~~b &&& undefinedMarks = a &&& undefinedMarks := by
  ext i hi
  have hbit : (b[i] && undefinedMarks[i]) = false := by rw [← BitVec.getElem_and, hb, BitVec.getElem_zero]
  simp only [BitVec.getElem_and, BitVec.getElem_not]
  cases h : b[i]
  · simp
  · have hu : undefinedMarks[i] = false := by simpa [h] using hbit
    simp [hu]

/-! ## The marks an acknowledgement leaves (R159, R160, R162) -/

/-- The latched and the acknowledged marks of a seat (R158). -/
structure EventMarks where
  latched : EventSet
  acked   : EventSet

/-- The event marks of a seat's entry. -/
def SeatEntry.marks (e : SeatEntry) : EventMarks := ⟨e.latched, e.acked⟩

@[simp] theorem marks_latched (e : SeatEntry) : e.marks.latched = e.latched := rfl

@[simp] theorem marks_acked (e : SeatEntry) : e.marks.acked = e.acked := rfl

/-- A seat's entry with other event marks. -/
def SeatEntry.withMarks (e : SeatEntry) (m : EventMarks) : SeatEntry := { e with latched := m.latched, acked := m.acked }

namespace EventMarks

/-- The marks after the acknowledgement of a level event whose condition holds or not (R160, R162). -/
def acknowledgeLevel (m : EventMarks) (holds : Event → Bool) (ack : EventSet) (v : Event) : EventMarks :=
  if ack.has v && m.latched.has v then
    if holds v then { m with acked := m.acked ||| v.mark }
    else ⟨m.latched &&& ~~~v.mark, m.acked &&& ~~~v.mark⟩
  else m

/-- The marks after the acknowledgements of the level events of a list, in order. -/
def acknowledgeLevels (m : EventMarks) (holds : Event → Bool) (ack : EventSet) (vs : List Event) : EventMarks :=
  vs.foldl (·.acknowledgeLevel holds ack ·) m

/-- The marks after the acknowledgements of an EVENTS request (R159, R160, R162). -/
def acknowledge (m : EventMarks) (holds : Event → Bool) (ack : EventSet) : EventMarks :=
  { m with latched := m.latched &&& ~~~(ack &&& edgeMarks) }.acknowledgeLevels holds ack levelEvents

section
variable (m : EventMarks) (holds : Event → Bool) (ack : EventSet) (v w : Event)

theorem latched_acknowledgeLevel :
    (m.acknowledgeLevel holds ack v).latched.has w = (m.latched.has w && !(decide (v = w) && ack.has w && !holds w)) := by
  unfold acknowledgeLevel
  obtain rfl | h := eq_or_ne v w
  · cases ack.has v <;> cases hl : m.latched.has v <;> cases holds v <;> simp [hl]
  · split <;> [split <;> simp [h]; simp [h]]

theorem acked_acknowledgeLevel :
    (m.acknowledgeLevel holds ack v).acked.has w = if v = w ∧ ack.has w ∧ m.latched.has w then holds w else m.acked.has w := by
  unfold acknowledgeLevel
  obtain rfl | h := eq_or_ne v w
  · cases ack.has v <;> cases m.latched.has v <;> cases holds v <;> simp
  · split <;> [split <;> simp [h]; simp [h]]

theorem undefined_acknowledgeLevel :
    (m.acknowledgeLevel holds ack v).latched &&& undefinedMarks = m.latched &&& undefinedMarks ∧
      (m.acknowledgeLevel holds ack v).acked &&& undefinedMarks = m.acked &&& undefinedMarks := by
  unfold acknowledgeLevel
  split
  · split
    · exact ⟨rfl, or_undefined _ (mark_defined v)⟩
    · exact ⟨clear_undefined _ (mark_defined v), clear_undefined _ (mark_defined v)⟩
  · exact ⟨rfl, rfl⟩

variable (vs : List Event)

theorem latched_acknowledgeLevels :
    (m.acknowledgeLevels holds ack vs).latched.has w = (m.latched.has w && !(decide (w ∈ vs) && ack.has w && !holds w)) := by
  induction vs generalizing m with
  | nil => simp [acknowledgeLevels]
  | cons v vs ih =>
    refine (ih (m.acknowledgeLevel holds ack v)).trans ?_
    rw [latched_acknowledgeLevel]
    obtain rfl | h := eq_or_ne v w
    · cases ack.has v <;> cases holds v <;> simp
    · simp [h, h.symm]

theorem acked_acknowledgeLevels :
    (m.acknowledgeLevels holds ack vs).acked.has w =
      if w ∈ vs ∧ ack.has w ∧ m.latched.has w then holds w else m.acked.has w := by
  induction vs generalizing m with
  | nil => simp [acknowledgeLevels]
  | cons v vs ih =>
    refine (ih (m.acknowledgeLevel holds ack v)).trans ?_
    rw [latched_acknowledgeLevel, acked_acknowledgeLevel]
    obtain rfl | h := eq_or_ne v w
    · cases ack.has v <;> cases m.latched.has v <;> cases holds v <;> simp
    · simp [h, h.symm]

theorem undefined_acknowledgeLevels :
    (m.acknowledgeLevels holds ack vs).latched &&& undefinedMarks = m.latched &&& undefinedMarks ∧
      (m.acknowledgeLevels holds ack vs).acked &&& undefinedMarks = m.acked &&& undefinedMarks := by
  induction vs generalizing m with
  | nil => exact ⟨rfl, rfl⟩
  | cons v vs ih =>
    obtain ⟨hlatched, hacked⟩ := m.undefined_acknowledgeLevel holds ack v
    obtain ⟨ihlatched, ihacked⟩ := ih (m.acknowledgeLevel holds ack v)
    exact ⟨ihlatched.trans hlatched, ihacked.trans hacked⟩

/-- A latched event that is named stays latched only while its condition holds; an edge event has none. -/
theorem latched_acknowledge :
    (m.acknowledge holds ack).latched.has v =
      (m.latched.has v && !(ack.has v && !(decide (v ∈ levelEvents) && holds v))) := by
  rw [acknowledge, latched_acknowledgeLevels, has_and, has_not, has_and, has_edgeMarks, decide_not]
  cases decide (v ∈ levelEvents) <;> cases ack.has v <;> simp

/-- A level event named and latched is acknowledged while its condition holds; every other mark stays. -/
theorem acked_acknowledge :
    (m.acknowledge holds ack).acked.has v =
      if v ∈ levelEvents ∧ ack.has v ∧ m.latched.has v then holds v else m.acked.has v := by
  rw [acknowledge, acked_acknowledgeLevels, has_and, has_not, has_and, has_edgeMarks]
  by_cases h : v ∈ levelEvents <;> simp [h]

theorem undefined_acknowledge :
    (m.acknowledge holds ack).latched &&& undefinedMarks = m.latched &&& undefinedMarks ∧
      (m.acknowledge holds ack).acked &&& undefinedMarks = m.acked &&& undefinedMarks := by
  have hedge : ack &&& edgeMarks &&& undefinedMarks = 0#16 := by rw [BitVec.and_assoc]; exact BitVec.and_zero
  obtain ⟨hlatched, hacked⟩ := undefined_acknowledgeLevels { m with latched := m.latched &&& ~~~(ack &&& edgeMarks) } holds ack levelEvents
  exact ⟨hlatched.trans (clear_undefined _ hedge), hacked⟩

end

end EventMarks

/-! ## What the device does with them (R153, R160) -/

section
variable {s : State} {x : Seat} {e : SeatEntry}

/-- The condition of an event reads nothing of a seat but its keepalive. -/
theorem condition_setSeat (he : e.keepalive = (s.seat x).keepalive) (v : Event) : (s.setSeat x e).condition x v = s.condition x v := by
  cases v
  case lapsed => simp only [condition, lapsed, seat_setSeat, if_true, he]
  all_goals rfl

theorem acknowledgeLevel_setSeat (he : e.keepalive = (s.seat x).keepalive) (ack : EventSet) (v : Event) :
    (s.setSeat x e).acknowledgeLevel x ack v = s.setSeat x (e.withMarks (e.marks.acknowledgeLevel (s.condition x) ack v)) := by
  unfold State.acknowledgeLevel EventMarks.acknowledgeLevel
  simp only [condition_setSeat he, seat_setSeat, if_true, setSeat_setSeat, apply_ite e.withMarks, apply_ite (s.setSeat x)]
  rfl

theorem acknowledgeLevels_setSeat (he : e.keepalive = (s.seat x).keepalive) (ack : EventSet) (vs : List Event) :
    vs.foldl (fun s v => s.acknowledgeLevel x ack v) (s.setSeat x e) =
      s.setSeat x (e.withMarks (e.marks.acknowledgeLevels (s.condition x) ack vs)) := by
  induction vs generalizing e with
  | nil => rfl
  | cons v vs ih =>
    rw [List.foldl_cons, acknowledgeLevel_setSeat he, ih (by exact he)]
    rfl

/-- The acknowledgements of an EVENTS request are one write of the seat's marks. -/
theorem acknowledge_eq (ack : EventSet) :
    s.acknowledge x ack = s.setSeat x ((s.seat x).withMarks ((s.seat x).marks.acknowledge (s.condition x) ack)) :=
  acknowledgeLevels_setSeat (e := { s.seat x with latched := (s.seat x).latched &&& ~~~(ack &&& edgeMarks) }) rfl ack levelEvents

theorem acksDeferred_eq_false : s.acksDeferred x = false ↔ x = .s ∨ s.held = false ∨ s.seatCtl.ackInHold = true := by
  simp [acksDeferred, Decidable.or_iff_not_imp_left]

theorem anyFaulted_iff : s.anyFaulted = true ↔ ∃ b, (s.bank b).state = .faulted := by
  simp [anyFaulted, allBanks]

variable (s x) in
/-- The marks an EVENTS request leaves a seat: as they stood while its acknowledgements are deferred (R153). -/
def marksAfter (ack : EventSet) : EventMarks :=
  if s.acksDeferred x then (s.seat x).marks else (s.seat x).marks.acknowledge (s.condition x) ack

variable {ack : EventSet} {mask : Option EventSet}

theorem eventsBody_undefined (h : (ack ||| mask.getD 0#16) &&& undefinedMarks ≠ 0#16) : eventsBody x ack mask s = refuse s .badParam :=
  if_pos h

theorem eventsBody_defined (h : (ack ||| mask.getD 0#16) &&& undefinedMarks = 0#16) :
    eventsBody x ack mask s =
      ⟨s.setSeat x { (s.seat x).withMarks (marksAfter s x ack) with mask := mask.getD (s.seat x).mask }, .ok,
        eventsPayload (s.seat x).latched (s.seat x).acked (mask.getD (s.seat x).mask)⟩ := by
  rw [eventsBody, if_neg (not_not.2 h), marksAfter]
  cases s.acksDeferred x
  · simp [acknowledge_eq, SeatEntry.withMarks]
  · rfl

theorem latched_marksAfter (v : Event) :
    (marksAfter s x ack).latched.has v =
      ((s.seat x).latched.has v && !(!s.acksDeferred x && ack.has v && !(decide (v ∈ levelEvents) && s.condition x v))) := by
  unfold marksAfter
  cases s.acksDeferred x
  · simp [EventMarks.latched_acknowledge]
  · simp

theorem acked_marksAfter (v : Event) :
    (marksAfter s x ack).acked.has v =
      if v ∈ levelEvents ∧ (!s.acksDeferred x && ack.has v) = true ∧ (s.seat x).latched.has v = true then s.condition x v
      else (s.seat x).acked.has v := by
  unfold marksAfter
  cases s.acksDeferred x
  · simp [EventMarks.acked_acknowledge]
  · simp

theorem undefined_marksAfter :
    (marksAfter s x ack).latched &&& undefinedMarks = (s.seat x).latched &&& undefinedMarks ∧
      (marksAfter s x ack).acked &&& undefinedMarks = (s.seat x).acked &&& undefinedMarks := by
  unfold marksAfter
  split
  · exact ⟨rfl, rfl⟩
  · exact EventMarks.undefined_acknowledge ..

end

/-- Settles O44: an EVENTS that names defined events is the one write of `marksAfter`, which is told event by event. -/
theorem eventsReportsThenAcknowledges : Obligations.EventsReportsThenAcknowledges := by
  unfold Obligations.EventsReportsThenAcknowledges
  refine ⟨fun e he => ?bits, fun s x v => rfl, fun x ack mask s ha => ?events⟩
  case bits =>
    have hindex : e.2 = e.1.index := by
      revert e
      decide
    rw [hindex]
    exact ⟨mark_eq_shift e.1, fun set => has_eq_getLsbD set e.1⟩
  case events =>
    intro s1 i e
    have answer {r : Reply} (h : eventsBody x ack mask s1 = r) : exec i s = .next (r.state.respond i x r.status r.payload) :=
      request_reply rfl ha h
    refine ⟨fun h => answer (eventsBody_undefined h), fun h => ?_⟩
    obtain ⟨hlatched, hacked⟩ := undefined_marksAfter (s := s1) (x := x) (ack := ack)
    refine ⟨(marksAfter s1 x ack).latched, (marksAfter s1 x ack).acked, answer (eventsBody_defined h), hlatched, hacked, fun v => ?_⟩
    intro taken holds
    have htaken : taken ↔ (!s1.acksDeferred x && EventSet.has ack v) = true := by
      rw [Bool.and_eq_true, Bool.not_eq_true', acksDeferred_eq_false]
    have hholds : holds ↔ s1.condition x v = true := by
      cases v
      case lapsed => exact lapsed_iff.symm
      case hold => exact held_iff.symm
      case bankFault => exact anyFaulted_iff.symm
      all_goals exact iff_of_false id Bool.false_ne_true
    rw [latched_marksAfter, acked_marksAfter, hholds, htaken]
    refine ⟨?stays, fun ht hl hv => ⟨fun hc => ?holding, fun hc => ?ended⟩, fun hv => ?edgeAcked, fun ht hv => ?edgeLatched⟩
    case stays =>
      rintro (ht | hl)
      · simp [e, ht]
      · simp [e, hl]
    case holding => simp [e, hv, hc, hl, ht]
    case ended => simp [e, hv, hc, hl, ht]
    case edgeAcked => simp [e, hv]
    case edgeLatched => simp [hv, ht]

end Sys2Proof.Machine
end

section
/-! PROOFS. Frames on the wire: the layouts of 11.5 read back, and with them every request (0.6, R165, R172). -/

namespace Sys2Proof.Machine

open State

/-! ## Fields, low byte first (0.6) -/

theorem bytes16_eq (v : BitVec 16) : bytes16 v = [BitVec.ofNat 8 (v.toNat / 256 ^ 0), BitVec.ofNat 8 (v.toNat / 256 ^ 1)] := by
  simp only [bytes16, List.cons.injEq, and_true, ← BitVec.toNat_inj, BitVec.extractLsb'_toNat, BitVec.toNat_ofNat]
  omega

theorem bytes24_eq (v : BitVec 24) :
    bytes24 v = [BitVec.ofNat 8 (v.toNat / 256 ^ 0), BitVec.ofNat 8 (v.toNat / 256 ^ 1), BitVec.ofNat 8 (v.toNat / 256 ^ 2)] := by
  simp only [bytes24, List.cons.injEq, and_true, ← BitVec.toNat_inj, BitVec.extractLsb'_toNat, BitVec.toNat_ofNat]
  omega

theorem word16_bytes (v : BitVec 16) : word16 (v.extractLsb' 0 8) (v.extractLsb' 8 8) = v :=
  BitVec.extractLsb'_append_extractLsb'

theorem word24_bytes (v : BitVec 24) : word24 (v.extractLsb' 0 8) (v.extractLsb' 8 8) (v.extractLsb' 16 8) = v := by
  have h : v.extractLsb' 16 8 ++ v.extractLsb' 8 8 = v.extractLsb' 8 16 :=
    BitVec.extractLsb'_append_extractLsb'_eq_extractLsb' rfl
  rw [word24, h]
  exact BitVec.extractLsb'_append_extractLsb'

theorem bytes16_word16 (b0 b1 : Byte) : bytes16 (word16 b0 b1) = [b0, b1] := by
  simp only [bytes16, word16, BitVec.extractLsb'_append_eq_right, BitVec.extractLsb'_append_eq_left]

theorem bytes24_word24 (b0 b1 b2 : Byte) : bytes24 (word24 b0 b1 b2) = [b0, b1, b2] := by
  have h1 : (word24 b0 b1 b2).extractLsb' 8 8 = b1 := by
    rw [word24, BitVec.extractLsb'_append_eq_of_le (by decide)]
    exact BitVec.extractLsb'_append_eq_right
  have h2 : (word24 b0 b1 b2).extractLsb' 16 8 = b2 := by
    rw [word24, BitVec.extractLsb'_append_eq_of_le (by decide)]
    exact BitVec.extractLsb'_append_eq_left
  rw [bytes24, h1, h2, word24, BitVec.extractLsb'_append_eq_right]

/-! ## Layouts (11.5) -/

/-- `read` takes the lists of bytes that `write` gives, and no other. -/
def Layout {α : Type} (read : List Byte → Option α) (write : α → List Byte) : Prop :=
  ∀ l a, read l = some a ↔ l = write a

theorem layout_none : Layout read0 fun _ => [] := by
  rintro (_ | _) a <;> simp [read0]

theorem layout_one : Layout read1 fun b => [b] := by
  rintro (_ | ⟨_, _ | _⟩) a <;> simp [read1]

theorem layout_two : Layout read2 fun q => [q.1, q.2] := by
  rintro (_ | ⟨_, _ | ⟨_, _ | _⟩⟩) ⟨a, b⟩ <;> simp [read2]

theorem layout_three : Layout read3 fun q => [q.1, q.2.1, q.2.2] := by
  rintro (_ | ⟨_, _ | ⟨_, _ | ⟨_, _ | _⟩⟩⟩) ⟨a, b, c⟩ <;> simp [read3]

theorem layout_optional : Layout readOptional Option.toList := by
  rintro (_ | ⟨_, _ | _⟩) (_ | _) <;> simp [readOptional]

/-- The bytes of an EVENTS frame: the acknowledgements, then the new mask if there is one. -/
def eventsBytes (q : BitVec 16 × Option (BitVec 16)) : List Byte := bytes16 q.1 ++ q.2.elim [] bytes16

theorem layout_events : Layout readEvents eventsBytes := by
  refine fun l q => ⟨fun h => ?_, ?_⟩
  · unfold readEvents at h
    split at h
    case h_3 => cases h
    all_goals
      cases h
      simp [eventsBytes, bytes16_word16]
  · rintro rfl
    obtain ⟨ack, _ | mask⟩ := q <;> simp [eventsBytes, bytes16, readEvents, word16_bytes]

theorem layout_open : Layout readOpen OpenParams.bytes := by
  refine fun l p => ⟨fun h => ?_, ?_⟩
  · unfold readOpen at h
    split at h <;> cases h
    simp [OpenParams.bytes, bytes16_word16, bytes24_word24]
  · rintro rfl
    simp [OpenParams.bytes, bytes16, bytes24, readOpen, word16_bytes, word24_bytes]

theorem layout_adjust : Layout readAdjust AdjustParams.bytes := by
  refine fun l p => ⟨fun h => ?_, ?_⟩
  · unfold readAdjust at h
    split at h <;> cases h
    simp [AdjustParams.bytes, bytes16_word16, bytes24_word24]
  · rintro rfl
    simp [AdjustParams.bytes, bytes16, bytes24, readAdjust, word16_bytes, word24_bytes]

theorem layout_seatSet : Layout readSeatSet SeatSetParams.bytes := by
  refine fun l p => ⟨fun h => ?_, ?_⟩
  · unfold readSeatSet at h
    split at h <;> cases h
    rfl
  · rintro rfl
    rfl

theorem layout_bankSet : Layout readBankSet BankSetParams.bytes := by
  refine fun l p => ⟨fun h => ?_, ?_⟩
  · unfold readBankSet at h
    split at h <;> cases h
    simp [BankSetParams.bytes, bytes16_word16]
  · rintro rfl
    simp [BankSetParams.bytes, bytes16, readBankSet, word16_bytes]

theorem layout_scanSet : Layout readScanSet ScanSetParams.bytes := by
  refine fun l p => ⟨fun h => ?_, ?_⟩
  · unfold readScanSet at h
    split at h <;> cases h
    rfl
  · rintro rfl
    rfl

theorem layout_tripSet : Layout readTripSet TripSetParams.bytes := by
  refine fun l p => ⟨fun h => ?_, ?_⟩
  · unfold readTripSet at h
    split at h <;> cases h
    simp [TripSetParams.bytes, bytes24_word24]
  · rintro rfl
    simp [TripSetParams.bytes, bytes24, readTripSet, word24_bytes]

section
variable {α : Type} {read : List Byte → Option α} {write : α → List Byte} {mk : α → Instr}

/-- A command reads back from the bytes its layout writes. -/
theorem Layout.command (hl : Layout read write) (a : α) : (read (write a)).map mk = some (mk a) := by
  rw [(hl _ a).2 rfl, Option.map_some]

/-- The frame of a command that was read with a layout is the frame read. -/
theorem Layout.frame (hl : Layout read write) {x : Seat} {c code : Byte} {l : List Byte} {i : Instr} (h : (read l).map mk = some i)
    (hf : ∀ a, frameOf (mk a) = some ⟨x, c, write a⟩) (hc : code.toNat = c.toNat) : frameOf i = some ⟨x, code, l⟩ := by
  obtain ⟨a, ha, rfl⟩ := Option.map_eq_some_iff.1 h
  rw [hf, (hl l a).1 ha, BitVec.eq_of_toNat_eq hc]

end

/-! ## Frames and commands -/

/-- A request's frame names the seat the request comes from, and only a request has one (R131, R167). -/
theorem seat_frameOf (i : Instr) : (frameOf i).map (·.seat) = (requestOf i).map (·.1) := by
  cases i
  case events x ack mask => cases mask <;> rfl
  all_goals rfl

theorem frameOf_eq_none_iff {i : Instr} : frameOf i = none ↔ requestOf i = none := by
  rw [← Option.map_eq_none_iff (f := (·.seat)), seat_frameOf, Option.map_eq_none_iff]

theorem exists_frame_of_request {i : Instr} {x : Seat} {c : RequestClass} (h : requestOf i = some (x, c)) :
    ∃ f, frameOf i = some f ∧ f.seat = x := by
  rw [← Option.map_eq_some_iff, seat_frameOf, h]
  rfl

theorem frameOf_events (x : Seat) (q : BitVec 16 × Option (BitVec 16)) :
    frameOf (.events x q.1 q.2) = some ⟨x, 0x1B#8, eventsBytes q⟩ := by
  obtain ⟨ack, _ | mask⟩ := q
  · simp [frameOf, eventsBytes]
  · rfl

/-- A request reads back from its frame. -/
theorem commandOf_frameOf {i : Instr} {f : Frame} (h : frameOf i = some f) : commandOf f = some i := by
  cases i
  case openLease x p => cases h; exact layout_open.command p
  case adjust x p => cases h; exact layout_adjust.command p
  case bankSet x p => cases h; exact layout_bankSet.command p
  case tripSet x p => cases h; exact layout_tripSet.command p
  case listFirst x u => cases h; exact layout_optional.command u
  case hold x u => cases h; exact layout_optional.command u
  case events x ack mask =>
    cases (frameOf_events x (ack, mask)).symm.trans h
    exact layout_events.command (ack, mask)
  all_goals cases h
  all_goals rfl

/-- A frame that reads as a request is that request's frame. The cases are the branches of `commandOf` in the order of the codes, grouped
by layout. -/
theorem frameOf_commandOf {f : Frame} {i : Instr} (h : commandOf f = some i) : frameOf i = some f := by
  obtain ⟨x, code, l⟩ := f
  unfold commandOf at h
  simp only at h
  split at h
  case h_1 hc => exact layout_open.frame h (fun _ => rfl) hc
  case h_2 hc => exact layout_adjust.frame h (fun _ => rfl) hc
  case h_12 hc => exact layout_events.frame h (frameOf_events x) hc
  case h_14 hc => exact layout_seatSet.frame h (fun _ => rfl) hc
  case h_15 hc => exact layout_bankSet.frame h (fun _ => rfl) hc
  case h_17 hc => exact layout_scanSet.frame h (fun _ => rfl) hc
  case h_27 hc => exact layout_tripSet.frame h (fun _ => rfl) hc
  case h_10 hc => exact layout_three.frame h (fun _ => rfl) hc
  case h_20 hc | h_24 hc => exact layout_two.frame h (fun _ => rfl) hc
  case h_8 hc | h_25 hc => exact layout_optional.frame h (fun _ => rfl) hc
  case h_9 hc | h_11 hc | h_13 hc | h_18 hc | h_19 hc | h_21 hc | h_26 hc | h_30 hc => exact layout_none.frame h (fun _ => rfl) hc
  case h_32 => cases h
  all_goals
    rename_i hc
    exact layout_one.frame h (fun _ => rfl) hc

theorem codeOf_frame {i : Instr} {f : Frame} (h : frameOf i = some f) : codeOf i = f.code := by
  rw [codeOf, h, Option.map_some, Option.getD_some]

/-! ## Lengths (R165) -/

/-- The request codes with the lengths each allows (11.5). -/
def requestLengths : List (Byte × List Nat) :=
  [(0x10#8, [16]), (0x11#8, [7]), (0x12#8, [1]), (0x13#8, [1]), (0x14#8, [1]), (0x15#8, [1]), (0x16#8, [1]), (0x17#8, [0, 1]),
    (0x18#8, [0]), (0x19#8, [3]), (0x1A#8, [0]), (0x1B#8, [2, 4]), (0x1C#8, [0]), (0x20#8, [8]), (0x21#8, [8]), (0x22#8, [1]),
    (0x23#8, [5]), (0x24#8, [0]), (0x25#8, [0]), (0x26#8, [2]), (0x27#8, [0]), (0x28#8, [1]), (0x29#8, [1]), (0x2A#8, [2]),
    (0x2B#8, [0, 1]), (0x2C#8, [0]), (0x2D#8, [7]), (0x2E#8, [1]), (0x2F#8, [1]), (0x30#8, [0]), (0x31#8, [1])]

/-- The table's rows are what `allowedLengths` answers, and it answers nothing else. -/
theorem allowedLengths_eq_some_iff {code : Byte} {lengths : List Nat} :
    allowedLengths code = some lengths ↔ (code, lengths) ∈ requestLengths := by
  refine ⟨fun h => ?_, fun h => List.map_inj_left (f := fun e => allowedLengths e.1) (g := fun e => some e.2).1 rfl _ h⟩
  have hcode {n : Nat} (hc : code.toNat = n) : code = BitVec.ofNat 8 n := by rw [← hc, BitVec.ofNat_toNat, BitVec.setWidth_eq]
  unfold allowedLengths at h
  split at h
  any_goals
    rename_i hc
    cases h
    rw [hcode hc]
    decide
  cases h

/-- No request has more than 24 parameter bytes. -/
theorem allowedLengths_le {code : Byte} {lengths : List Nat} {n : Nat} (h : allowedLengths code = some lengths) (hn : n ∈ lengths) :
    n ≤ 24 := by
  have hall : ∀ e ∈ requestLengths, ∀ n ∈ e.2, n ≤ 24 := by decide
  exact hall _ (allowedLengths_eq_some_iff.1 h) n hn

/-- The frame of a request has a length its code allows (R165). -/
theorem allowedLengths_frameOf {i : Instr} {f : Frame} (h : frameOf i = some f) :
    ∃ lengths, allowedLengths f.code = some lengths ∧ f.params.length ∈ lengths := by
  suffices hi : Laws.FrameLength.Statement i from hi f h
  cases i
  case listFirst x u => exact Laws.FrameLength.listFirst x u
  case hold x u => exact Laws.FrameLength.hold x u
  case events x ack mask => exact Laws.FrameLength.events x ack mask
  all_goals cases h
  all_goals exact Laws.FrameLength.of_frame rfl rfl

/-- Settles O8: each layout reads back, and the tables of codes, bytes and lengths are read off row by row. -/
theorem framesReadBack : Obligations.FramesReadBack := by
  unfold Obligations.FramesReadBack
  refine ⟨fun i f => commandOf_frameOf, fun f i => frameOf_commandOf, fun i => frameOf_eq_none_iff, ?bytes,
    fun code lengths => allowedLengths_eq_some_iff⟩
  case bytes =>
    intro x h u v w ack mask o d n r m q at' two three e he
    have htwo : two = bytes16 := funext fun v => (bytes16_eq v).symm
    have hthree : three = bytes24 := funext fun v => (bytes24_eq v).symm
    clear_value two three
    subst htwo hthree
    have hframe : frameOf e.1 = some ⟨x, e.2.1, e.2.2⟩ :=
      List.map_inj_left (f := fun e => frameOf e.1) (g := fun e => some ⟨x, e.2.1, e.2.2⟩).1 rfl e he
    exact ⟨hframe, codeOf_frame hframe⟩

end Sys2Proof.Machine
end

section
/-! PROOFS. The bus port: what each of its acts does, and that every step keeps the request queue sound (R164, R165, R167). -/

namespace Sys2Proof.Machine

open State

namespace State

section
variable {s t : State} {x : Seat} {f : Frame} {received : List Byte}

/-! ## The end of a write, by the cases of R165 -/

theorem endWrite_of_idle (h : s.port.transaction = .idle) : s.endWrite = s := by
  simp [endWrite, h]

theorem endWrite_of_write (h : s.port.transaction = .write x received) :
    s.endWrite = (s.setTransaction .idle).judgeWrite x received := by
  simp [endWrite, h]

/-- What the end of a write can come to: no byte, an answer at once, or a frame of the seat in the queue. -/
theorem judgeWrite_cases (s : State) (x : Seat) (received : List Byte) :
    s.judgeWrite x received = s.setBusy x false ∨ (∃ code st, s.judgeWrite x received = s.answer x code st []) ∨
      ∃ code params, s.judgeWrite x received = s.queueFrame ⟨x, code, params⟩ := by
  unfold judgeWrite
  split
  · exact .inl rfl
  · exact .inr (.inl ⟨_, _, rfl⟩)
  · simp only
    repeat' split
    any_goals exact .inr (.inl ⟨_, _, rfl⟩)
    exact .inr (.inr ⟨_, _, rfl⟩)

theorem judgeWrite_transaction (s : State) (x : Seat) (received : List Byte) :
    (s.judgeWrite x received).port.transaction = s.port.transaction := by
  obtain h | ⟨code, st, h⟩ | ⟨code, params, h⟩ := s.judgeWrite_cases x received <;> rw [h] <;> rfl

theorem endWrite_transaction (s : State) : s.endWrite.port.transaction = .idle := by
  cases h : s.port.transaction with
  | idle => rw [endWrite_of_idle h, h]
  | write x received => rw [endWrite_of_write h, judgeWrite_transaction]; rfl

/-- A write ends once. -/
theorem endWrite_endWrite (s : State) : s.endWrite.endWrite = s.endWrite := endWrite_of_idle s.endWrite_transaction

/-! ## The port is sound -/

theorem portSound_of_port (h : t.port = s.port) (hs : s.portSound) : t.portSound := by
  simp only [portSound, busy, h]
  exact hs

theorem portSound_of_outer (h : t.outer = s.outer) (hs : s.portSound) : t.portSound :=
  portSound_of_port (congrArg Prod.fst h) hs

/-- A seat that neither has a frame in the queue nor writes may lose its busy mark. -/
theorem portSound_setBusy_false (hs : s.portSound) (hq : x ∉ s.port.requestQueue.map (·.seat))
    (hw : ∀ received, s.port.transaction ≠ .write x received) : (s.setBusy x false).portSound := by
  obtain ⟨hlen, hnodup, hbusy, hwrite⟩ := hs
  refine ⟨hlen, hnodup, fun f hf => ?_, ?_⟩
  · have hx : x ≠ f.seat := fun h => hq (h ▸ List.mem_map_of_mem hf)
    rw [busy_setBusy, if_neg hx]
    exact hbusy f hf
  · rw [setBusy_port_transaction]
    split at hwrite
    case h_1 => trivial
    case h_2 y received heq =>
      have hx : x ≠ y := fun h => hw received (h ▸ heq)
      obtain ⟨hy, hrest⟩ := hwrite
      exact ⟨by rwa [busy_setBusy, if_neg hx], hrest⟩

/-- An answer clears a busy mark, and its page is no part of the queue. -/
theorem portSound_answer (hs : s.portSound) (hq : x ∉ s.port.requestQueue.map (·.seat))
    (hw : ∀ received, s.port.transaction ≠ .write x received) (code : Byte) (st : Status) (payload : List Byte) :
    (s.answer x code st payload).portSound :=
  portSound_setBusy_false (s := s.setPage x _) hs hq hw

/-- The frame of a seat that is busy without one fits into a queue that has room. -/
theorem portSound_queueFrame (hs : s.portSound) (hidle : s.port.transaction = .idle) (hbusy : s.busy f.seat = true)
    (hq : f.seat ∉ s.port.requestQueue.map (·.seat)) (hroom : s.port.requestQueue.length < Config.queuePlaces) :
    (s.queueFrame f).portSound := by
  obtain ⟨-, hnodup, hframes, -⟩ := hs
  have hqueue : (s.queueFrame f).port.requestQueue = s.port.requestQueue ++ [f] := rfl
  have hmark (y : Seat) : (s.queueFrame f).busy y = s.busy y := rfl
  have htrans : (s.queueFrame f).port.transaction = .idle := hidle
  simp only [portSound, hqueue, hmark, htrans, List.length_append, List.map_append, List.mem_append]
  refine ⟨hroom, List.nodup_append_comm.1 (List.nodup_cons.2 ⟨hq, hnodup⟩), fun g hg => ?_, trivial⟩
  obtain hg | hg := hg
  · exact hframes g hg
  · rw [List.mem_singleton.1 hg, hbusy]

theorem portSound_endWrite (hs : s.portSound) : s.endWrite.portSound := by
  cases h : s.port.transaction with
  | idle => rwa [endWrite_of_idle h]
  | write x received =>
    rw [endWrite_of_write h]
    obtain ⟨hlen, hnodup, hframes, hwrite⟩ := hs
    rw [h] at hwrite
    obtain ⟨hbusy, hq, hroom⟩ := hwrite
    have hs : (s.setTransaction .idle).portSound := ⟨hlen, hnodup, hframes, trivial⟩
    have hw (r : List Byte) : (s.setTransaction .idle).port.transaction ≠ .write x r := nofun
    obtain h | ⟨code, st, h⟩ | ⟨code, params, h⟩ := (s.setTransaction .idle).judgeWrite_cases x received
    · rw [h]; exact portSound_setBusy_false hs hq hw
    · rw [h]; exact portSound_answer hs hq hw ..
    · rw [h]; exact portSound_queueFrame hs rfl hbusy hq hroom

/-- A write begins at a seat whose busy mark was clear, so the seat had no frame in the queue. -/
theorem portSound_beginWrite (hs : s.portSound) (hclear : s.busy x = false)
    (hroom : s.port.requestQueue.length < Config.queuePlaces) :
    ((s.setBusy x true).setTransaction (.write x [])).portSound := by
  obtain ⟨hlen, hnodup, hframes, -⟩ := hs
  have hq : x ∉ s.port.requestQueue.map (·.seat) := fun h => by
    obtain ⟨f, hf, rfl⟩ := List.mem_map.1 h
    rw [hframes f hf] at hclear
    cases hclear
  refine ⟨hlen, hnodup, fun f hf => ?_, ?_, hq, hroom⟩
  · rw [busy_setTransaction, busy_setBusy, hframes f hf, ite_self]
  · rw [busy_setTransaction, busy_setBusy, if_pos rfl]

theorem portSound_writeAddress (hs : s.portSound) (a : BitVec 7) : (s.writeAddress a).portSound := by
  have he : s.endWrite.portSound := portSound_endWrite hs
  unfold writeAddress
  simp only
  split
  · exact he
  · split
    · exact he
    · split
      · exact he
      case isFalse hfree =>
        obtain ⟨hroom, hclear⟩ : s.endWrite.port.requestQueue.length < Config.queuePlaces ∧ s.endWrite.busy _ = false := by
          simpa using hfree
        exact portSound_beginWrite he hclear hroom

/-- A byte belongs to the write in progress and leaves its seat. -/
theorem portSound_writeByte (hs : s.portSound) (b : Byte) : (s.writeByte b).portSound := by
  unfold writeByte
  split
  · exact hs
  case h_2 x received h =>
    obtain ⟨hlen, hnodup, hframes, hwrite⟩ := hs
    rw [h] at hwrite
    exact ⟨hlen, hnodup, hframes, hwrite⟩

theorem portSound_readPage (hs : s.portSound) (a : BitVec 7) (n : Nat) : (s.readPage a n).portSound := by
  have he : s.endWrite.portSound := portSound_endWrite hs
  unfold readPage
  simp only
  repeat' split
  all_goals exact he

theorem portSound_holdReset (hs : s.portSound) : s.holdReset.portSound := by
  obtain ⟨hlen, hnodup, hframes, -⟩ := hs
  exact ⟨hlen, hnodup, hframes, trivial⟩

/-! ## Requests -/

/-- When a request is dispatched, its frame leaves a sound queue, and its seat neither has another there nor writes. -/
theorem portSound_dispatched (hs : s.portSound) (hd : s.mayDispatch f.seat (some f) = true) :
    s.dequeue.portSound ∧ f.seat ∉ s.dequeue.port.requestQueue.map (·.seat) ∧
      ∀ received, s.dequeue.port.transaction ≠ .write f.seat received := by
  obtain ⟨hlen, hnodup, hframes, hwrite⟩ := hs
  obtain ⟨hq, hclear, -⟩ | ⟨rest, hq⟩ := mayDispatch_iff.1 hd
  case inl =>
    have hdeq : s.dequeue = s := by simp only [dequeue, hq, List.tail_nil]; rw [← hq]
    rw [hdeq]
    refine ⟨⟨hlen, hnodup, hframes, hwrite⟩, by simp [hq], fun received h => ?_⟩
    rw [h] at hwrite
    exact Bool.false_ne_true (hclear.symm.trans hwrite.1)
  case inr =>
    have hdeq : s.dequeue.port.requestQueue = rest := congrArg List.tail hq
    rw [hq] at hlen hnodup hframes hwrite
    obtain ⟨hseat, hnodup⟩ := List.nodup_cons.1 hnodup
    have htrans : s.dequeue.port.transaction = s.port.transaction := rfl
    rw [portSound, hdeq, htrans]
    refine ⟨⟨Nat.le_of_succ_le hlen, hnodup, fun g hg => hframes g (List.mem_cons_of_mem f hg), ?_⟩, hseat, fun received h => ?_⟩
    · split
      · trivial
      case h_2 x received h =>
        rw [h] at hwrite
        obtain ⟨hbusy, hx, hroom⟩ := hwrite
        exact ⟨hbusy, fun hm => hx (List.mem_cons_of_mem _ hm), Nat.lt_of_succ_lt hroom⟩
    · rw [h] at hwrite
      obtain ⟨-, hx, -⟩ := hwrite
      exact hx List.mem_cons_self

end

end State

/-- A request whose body leaves the port alone keeps it sound. -/
theorem portSound_request {i : Instr} {x : Seat} {c : RequestClass} {p : List Byte} {body : State → Reply} {s t : State}
    (hr : requestOf i = some (x, c)) (hb : Inner body) (hs : s.portSound) (h : request i x c p body s = .next t) : t.portSound := by
  cases hd : s.mayDispatch x (frameOf i) with
  | false =>
    rw [request_undispatched hd] at h
    cases h
    exact hs
  | true =>
    obtain ⟨f, hf, rfl⟩ := exists_frame_of_request hr
    rw [hf] at hd
    obtain ⟨hq, hseat, hwrite⟩ := portSound_dispatched hs hd
    have hsettle : s.settle.port = s.port := congrArg Prod.fst s.outer_settle
    have htaken : s.taken.port = s.dequeue.port := by simp only [taken, dequeue, hsettle]
    have respond {u : State} (hu : u.port = s.dequeue.port) (st : Status) (payload : List Byte) :
        (u.respond i f.seat st payload).portSound :=
      portSound_answer (portSound_of_port hu hq) (hu ▸ hseat) (hu ▸ hwrite) ..
    obtain rfl | ⟨st, rfl⟩ | rfl := request_cases h
    · exact hs
    · exact respond htaken ..
    · exact respond ((hb.port _).trans htaken) ..

/-- An event of the device leaves the port alone. -/
theorem portSound_event {act : State → State} {s t : State} (ha : ∀ s, (act s).outer = s.outer) (hs : s.portSound)
    (h : event act s = .next t) : t.portSound := by
  cases h
  exact portSound_of_outer ((ha _).trans s.outer_settle) hs

theorem exec_keeps_portSound {i : Instr} {s t : State} (hs : s.portSound) (h : exec i s = .next t) : t.portSound := by
  cases hr : requestOf i with
  | some xc =>
    obtain ⟨body, hbody, hexec⟩ := exec_request hr
    exact portSound_request hr hbody hs (hexec s ▸ h)
  | none =>
    cases i
    case writeAddress a => cases h; exact portSound_writeAddress hs a
    case writeByteReceived b => cases h; exact portSound_writeByte hs b
    case writeEnd => cases h; exact portSound_endWrite hs
    case readPage a n => cases h; exact portSound_readPage hs a n
    case resetHeldLow => cases h; exact portSound_holdReset hs
    case powerOnReset st => cases h; exact portSound_of_port (congrArg State.port (deviceReset_eq st s)) (portSound_afterReset ..)
    case pinReset st => cases h; exact portSound_of_port (congrArg State.port (deviceReset_eq st s)) (portSound_afterReset ..)
    case rampStep k => cases h; exact portSound_of_outer (s.outer_rampStep k) hs
    case rampComplete k => cases h; exact portSound_of_outer (s.outer_completeRamp k) hs
    all_goals cases hr
    all_goals
      cases h
      exact portSound_of_outer (s := s) (by simp) hs

/-- Settles O6: a busy seat has one frame in the queue or one write under way, which a dispatch and the end of a write keep. -/
theorem stepKeepsPortSound : Obligations.StepKeepsPortSound := by
  unfold Obligations.StepKeepsPortSound
  intro s t hs h
  unfold step at h
  split at h
  · refine exec_keeps_portSound ?_ h
    exact hs
  · cases h
    unfold idle
    split
    · exact hs
    · exact portSound_of_port (s := s) rfl hs

end Sys2Proof.Machine
end

section
/-! PROOFS. What the end of a write comes to: a good frame joins the queue, a bad write is answered at once (R165, R167, R168). -/

namespace Sys2Proof.Machine

open State

/-! ## The check code (0.6) -/

theorem crc8_append (bytes : List Byte) (b : Byte) : crc8 (bytes ++ [b]) = crcByte (crc8 bytes) b := List.foldl_concat ..

/-! ## The cases of R165 -/

namespace State

section
variable {s : State} {x : Seat} {code len : Byte} {rest : List Byte}

/-- Too few bytes: the check code is missing (case 2). -/
theorem judgeWrite_short (h : rest.length ≤ len.toNat) : s.judgeWrite x (code :: len :: rest) = s.answer x code .frameError [] := by
  simp [judgeWrite, List.drop_eq_nil_of_le h]

/-- A length above 24 (case 2). -/
theorem judgeWrite_long (h : 24 < len.toNat) : s.judgeWrite x (code :: len :: rest) = s.answer x code .frameError [] := by
  simp only [judgeWrite, h, if_true]
  split <;> rfl

variable (hrest : len.toNat < rest.length) (hlen : len.toNat ≤ 24)
include hrest hlen

/-- Bytes enough and no length above 24: the check code decides first (case 3). -/
theorem judgeWrite_badCheck (h : rest.getD len.toNat 0#8 ≠ crc8 (code :: len :: rest.take len.toNat)) :
    s.judgeWrite x (code :: len :: rest) = s.answer x code .frameError [] := by
  rw [List.getD_eq_getElem _ _ hrest] at h
  simp only [judgeWrite, List.drop_eq_getElem_cons hrest, Nat.not_lt.2 hlen, if_false, List.cons_append, List.nil_append, h, ne_eq,
    not_false_eq_true, if_true]

variable (hcheck : rest.getD len.toNat 0#8 = crc8 (code :: len :: rest.take len.toNat))
include hcheck

/-- A good check code, and a code that is not in the table (case 4). -/
theorem judgeWrite_unknown (h : allowedLengths code = none) :
    s.judgeWrite x (code :: len :: rest) = s.answer x code .unknownRequest [] := by
  rw [List.getD_eq_getElem _ _ hrest] at hcheck
  simp only [judgeWrite, List.drop_eq_getElem_cons hrest, Nat.not_lt.2 hlen, if_false, List.cons_append, List.nil_append, hcheck, ne_eq,
    not_true_eq_false, h]

/-- A good check code, and a length the table gives the code or not (cases 5 and 6). -/
theorem judgeWrite_known {ls : List Nat} (h : allowedLengths code = some ls) :
    s.judgeWrite x (code :: len :: rest) =
      if len.toNat ∈ ls then s.queueFrame ⟨x, code, rest.take len.toNat⟩ else s.answer x code .frameError [] := by
  rw [List.getD_eq_getElem _ _ hrest] at hcheck
  simp only [judgeWrite, List.drop_eq_getElem_cons hrest, Nat.not_lt.2 hlen, if_false, List.cons_append, List.nil_append, hcheck, ne_eq,
    not_true_eq_false, h, List.contains_iff_mem]

end

end State

/-- Settles O9: the frame's own bytes pass every case of R165 but the last. -/
theorem writtenFrameIsQueued : Obligations.WrittenFrameIsQueued := by
  unfold Obligations.WrittenFrameIsQueued
  refine ⟨rfl, fun bytes b => crc8_append bytes b, fun i f s hf => ?_⟩
  intro body s1 hw
  obtain ⟨ls, hls, hmem⟩ := allowedLengths_frameOf hf
  have hle : f.params.length ≤ 24 := allowedLengths_le hls hmem
  have hlen : (BitVec.ofNat 8 f.params.length).toNat = f.params.length := by
    rw [BitVec.toNat_ofNat]
    omega
  refine ⟨hle, ?_⟩
  have hjudge : s1.judgeWrite f.seat (body ++ [crc8 body]) = s1.queueFrame f := by
    have hknown := judgeWrite_known (s := s1) (x := f.seat) (code := f.code) (len := BitVec.ofNat 8 f.params.length)
      (rest := f.params ++ [crc8 body]) (by simp [hlen]) (by rwa [hlen]) (by simp [hlen, body]) hls
    rw [hlen, if_pos hmem, List.take_left' rfl] at hknown
    exact hknown
  exact congrArg Host.Outcome.next ((endWrite_of_write hw).trans hjudge)

/-- Settles O10: the cases of R165 in order, each on the bytes as they were received. -/
theorem badWriteIsAnsweredAtOnce : Obligations.BadWriteIsAnsweredAtOnce := by
  unfold Obligations.BadWriteIsAnsweredAtOnce
  refine ⟨fun s h => congrArg Host.Outcome.next (endWrite_of_idle h), fun x s received h => ?_⟩
  intro code len s1 answered
  have answer {t : State} (ht : s1.judgeWrite x received = t) : exec .writeEnd s = .next t :=
    congrArg Host.Outcome.next ((endWrite_of_write h).trans ht)
  rcases received with _ | ⟨c, _ | ⟨l, rest⟩⟩
  · exact ⟨fun _ => answer rfl, nofun, nofun⟩
  · exact ⟨nofun, fun _ _ => answer rfl, fun h => absurd h (by simp)⟩
  · refine ⟨nofun, fun _ h => ?_, fun _ hrest hlen => ?_⟩
    · obtain h | h | h := h
      · exact answer (judgeWrite_short (Nat.le_of_lt_succ (by simpa [len] using h)))
      · exact answer (judgeWrite_long h)
      · exact absurd h (by simp)
    · have hrest : l.toNat < rest.length := by simpa [len] using hrest
      refine ⟨fun hc => answer (judgeWrite_badCheck hrest hlen hc), fun hc => ⟨fun hu => ?_, fun ls hls hn => ?_⟩⟩
      · exact answer (judgeWrite_unknown hrest hlen hc hu)
      · exact answer ((judgeWrite_known hrest hlen hc hls).trans (if_neg hn))

end Sys2Proof.Machine
end

section
/-! PROOFS. The acknowledge bits of a write, and what a read returns (R164 to R166). -/

namespace Sys2Proof.Machine

open State

namespace State

section
variable {s : State} {a : BitVec 7} {x : Seat} {received : List Byte} {b : Byte}

/-! ## The seat at an address (R126, R164) -/

theorem seat_mem_all (x : Seat) : x ∈ Seat.all := by cases x <;> decide

/-- The seat at an address is enabled there. -/
theorem seatAt_some (h : s.seatAt a = some x) : (s.seat x).enabled = true ∧ (s.seat x).address = a := by
  simpa [beq_iff_eq] using List.find?_some h

/-- At an address of no seat no seat is enabled. -/
theorem seatAt_none (h : s.seatAt a = none) (x : Seat) (he : (s.seat x).enabled = true) : (s.seat x).address ≠ a := by
  have hx := List.find?_eq_none.1 h x (seat_mem_all x)
  simpa [he] using hx

/-! ## The address byte of a write (R164) -/

section
variable (hi : s.port.transaction = .idle)
include hi

theorem writeAddress_resetLow (hr : s.port.resetLow = true) : s.writeAddress a = s.setAck false := by
  simp [writeAddress, endWrite_of_idle hi, hr]

variable (hr : s.port.resetLow = false)
include hr

theorem writeAddress_noSeat (ha : s.seatAt a = none) : s.writeAddress a = s.setAck false := by
  simp [writeAddress, endWrite_of_idle hi, hr, ha]

/-- A full queue or a busy seat refuses the write. -/
theorem writeAddress_refused (ha : s.seatAt a = some x) (h : Config.queuePlaces ≤ s.port.requestQueue.length ∨ s.busy x = true) :
    s.writeAddress a = s.setAck false := by
  simp [writeAddress, endWrite_of_idle hi, hr, ha, h]

theorem writeAddress_accepted (ha : s.seatAt a = some x) (hroom : s.port.requestQueue.length < Config.queuePlaces)
    (hclear : s.busy x = false) : s.writeAddress a = ((s.setBusy x true).setTransaction (.write x [])).setAck true := by
  simp [writeAddress, endWrite_of_idle hi, hr, ha, hclear, Nat.not_le.2 hroom]

end

/-- A START ends a write in progress as a STOP does (log 20). -/
theorem writeAddress_endWrite : s.endWrite.writeAddress a = s.writeAddress a := by
  simp only [writeAddress, endWrite_endWrite]

theorem readPage_endWrite (n : Nat) : s.endWrite.readPage a n = s.readPage a n := by
  simp only [readPage, endWrite_endWrite]

/-! ## The bytes of a write (R165) -/

theorem writeByte_of_idle (h : s.port.transaction = .idle) : s.writeByte b = s.setAck false := by
  simp [writeByte, h]

theorem setTransaction_of_eq {v : Transaction} (h : s.port.transaction = v) : s.setTransaction v = s := by
  subst h
  rfl

/-- A byte that is wanted is received and acknowledged. -/
theorem writeByte_wanted (h : s.port.transaction = .write x received) (hw : byteWanted received b = true) :
    s.writeByte b = (s.setTransaction (.write x (received ++ [b]))).setAck true := by
  simp [writeByte, h, hw]

/-- The length byte is received, wanted or not (log 28). -/
theorem writeByte_length (h : s.port.transaction = .write x received) (hl : received.length = 1) :
    s.writeByte b = (s.setTransaction (.write x (received ++ [b]))).setAck (byteWanted received b) := by
  simp [writeByte, h, hl]

/-- Another byte that is not wanted is not received. -/
theorem writeByte_unwanted (h : s.port.transaction = .write x received) (hw : byteWanted received b = false)
    (hl : received.length ≠ 1) : s.writeByte b = s.setAck false := by
  simp [writeByte, h, hw, hl, setTransaction_of_eq h]

/-- From the third byte on the length byte decides: that many parameters, then the check code. -/
theorem byteWanted_iff (h : 2 ≤ received.length) :
    byteWanted received b = true ↔ (received.getD 1 0#8).toNat ≤ 24 ∧ received.length < (received.getD 1 0#8).toNat + 3 := by
  rcases received with _ | ⟨code, _ | ⟨len, rest⟩⟩
  · cases h
  · exact absurd h (by simp)
  · have hlen : (code :: len :: rest).length < len.toNat + 3 ↔ rest.length ≤ len.toNat := by
      simp only [List.length_cons]
      omega
    simp only [byteWanted, Bool.and_eq_true, decide_eq_true_eq, List.getD_cons_succ, List.getD_cons_zero, hlen]

/-! ## A read (R164, R166, R168) -/

theorem readPage_noSeat (hi : s.port.transaction = .idle) (ha : s.seatAt a = none) (n : Nat) : s.readPage a n = s.setAck false := by
  simp [readPage, endWrite_of_idle hi, ha]

/-- What a read of `n` bytes returns of a page. -/
def pageData (p : Page) (n : Nat) : List Byte := p.bytes.take n ++ List.replicate (n - p.bytes.length) 0xFF#8

theorem readPage_seat (hi : s.port.transaction = .idle) (hr : s.port.resetLow = false) (ha : s.seatAt a = some x) (n : Nat) :
    s.readPage a n = { s with port := { s.port with ack := true, readData := pageData (s.page x) n } } := by
  simp [readPage, endWrite_of_idle hi, hr, ha, pageData]

theorem length_pageData (p : Page) (n : Nat) : (pageData p n).length = n := by
  rw [pageData, List.length_append, List.length_take, List.length_replicate]
  omega

/-- A read finds the bytes of the page, then 0xFF. -/
theorem getElem?_pageData (p : Page) {n j : Nat} (h : j < n) : (pageData p n)[j]? = some (p.bytes.getD j 0xFF#8) := by
  rw [pageData]
  by_cases hj : j < p.bytes.length
  · rw [List.getElem?_append_left (by rw [List.length_take]; omega), List.getElem?_take_of_lt h, List.getD_eq_getElem _ _ hj,
      List.getElem?_eq_getElem hj]
  · have hle : p.bytes.length ≤ j := Nat.not_lt.1 hj
    have htake : p.bytes.take n = p.bytes := List.take_of_length_le (hle.trans h.le)
    rw [htake, List.getElem?_append_right hle, List.getElem?_replicate_of_lt (by omega), List.getD_eq_default _ _ hle]

end

end State

/-- Settles O11: the address byte by what `seatAt` finds, and a data byte by whether it is wanted. -/
theorem writesAreAcknowledgedByPlace : Obligations.WritesAreAcknowledgedByPlace := by
  unfold Obligations.WritesAreAcknowledgedByPlace
  have next {t u : State} (h : t = u) : Host.Outcome.next (φ := Fault) (ρ := Refusal) t = .next u := congrArg _ h
  refine ⟨fun s a hi hr => ⟨fun x ha hroom hclear => ?_, fun x ha h => ?_, fun ha => ?_⟩, fun s a hi hr => ?_, fun s b hi => ?_,
    fun s a => ⟨fun x => seatAt_some, seatAt_none⟩, fun s t a n h => ?start, fun x s received b h => ?byte⟩
  · exact next (writeAddress_accepted hi hr ha hroom hclear)
  · exact next (writeAddress_refused hi hr ha h)
  · exact next (writeAddress_noSeat hi hr ha)
  · exact next (writeAddress_resetLow hi hr)
  · exact next (writeByte_of_idle hi)
  case start =>
    cases h
    exact ⟨next writeAddress_endWrite.symm, next (readPage_endWrite n).symm⟩
  case byte =>
    intro len kept
    refine ⟨fun hl => ?_, fun hl => ?_, fun h2 hle hlt => ?_, fun h2 hbad => ?_⟩
    · obtain rfl := List.length_eq_zero_iff.1 hl
      exact next (writeByte_wanted h rfl)
    · obtain ⟨code, rfl⟩ := List.length_eq_one_iff.1 hl
      exact next (writeByte_length h rfl)
    · exact next (writeByte_wanted h ((byteWanted_iff h2).2 ⟨hle, hlt⟩))
    · refine next (writeByte_unwanted h (Bool.eq_false_iff.2 fun hw => ?_) (by omega))
      obtain ⟨hle, hlt⟩ := (byteWanted_iff h2).1 hw
      exact hbad.elim (Nat.not_lt.2 hle) (Nat.not_le.2 hlt)

/-- Settles O12: a read at a seat returns `pageData`, and nothing of the device but the port's own record of the read changes. -/
theorem readReturnsPage : Obligations.ReadReturnsPage := by
  unfold Obligations.ReadReturnsPage
  refine ⟨fun s a n hi ha => congrArg Host.Outcome.next (readPage_noSeat hi ha n), fun s a x n hi hr ha => ?_⟩
  intro p body
  refine ⟨pageData p n, congrArg Host.Outcome.next (readPage_seat hi hr ha n), length_pageData p n, ?_,
    fun j hj => getElem?_pageData p hj⟩
  simp only [body, List.length_append, List.length_cons, List.length_nil]
  omega

end Sys2Proof.Machine
end

section
/-! PROOFS. What a response replaces, and that the output pins follow it (R46, R163, R167, R168). -/

namespace Sys2Proof.Machine

open State

namespace State

/-! ## The output pins (R46, 2.5.2, R163) -/

/-- The switches, rail enables and ATTN# follow what they do not change themselves. -/
theorem pinsAgree_driveOutputs (s : State) : s.driveOutputs.pinsAgree := by
  have hattn : s.driveOutputs.attention = s.attention := rfl
  have hwanted (t : Fin 16) : s.driveOutputs.switchWanted t = s.switchWanted t := by
    simp only [switchWanted, terminal_driveOutputs, resolve_driveOutputs]
  refine ⟨fun t => ?_, fun b => ?_, hattn.symm⟩
  · rw [hwanted, terminal_driveOutputs]
  · rw [bank_driveOutputs]

theorem driveOutputs_eq (s : State) :
    s.driveOutputs = { s with
      allocator := { s.allocator with terminals := s.driveOutputs.allocator.terminals }, banks := s.driveOutputs.banks
      seatCtl := { s.seatCtl with attnLow := s.driveOutputs.seatCtl.attnLow } } := rfl

end State

/-- Settles O19: `answer` writes one page and one busy mark, and `driveOutputs` the pins alone. -/
theorem responseReplacesPage : Obligations.ResponseReplacesPage := by
  unfold Obligations.ResponseReplacesPage
  refine ⟨by decide, fun s => ⟨s.driveOutputs_eq, s.pinsAgree_driveOutputs, s.bank_driveOutputs, s.terminal_driveOutputs⟩,
    fun s i x st payload => ?response⟩
  case response =>
    intro t
    subst t
    refine ⟨by rw [respond_page, if_pos rfl], by rw [respond_busy, if_pos rfl],
      fun y hy => ⟨by rw [respond_page, if_neg hy.symm], by rw [respond_busy, if_neg hy.symm]⟩,
      rfl, rfl, rfl, rfl, rfl, rfl, driveOutputs_allocator_waitExpiryNotices _, rfl, rfl, rfl, rfl, rfl, rfl, rfl,
      fun y => respond_seat s i x y st payload, respond_cell s i x st payload, respond_waitList s i x st payload,
      respond_committed s i x st payload, ?_, ?_, pinsAgree_driveOutputs _⟩
    · exact (s.answer x (codeOf i) st payload).bank_driveOutputs
    · exact (s.answer x (codeOf i) st payload).terminal_driveOutputs

end Sys2Proof.Machine
end

section
/-! PROOFS. The queue of waiting commands and the straps: a step takes the front of the queue, no command touches it, and only a device
reset samples the straps (0.3, 0.6, log 19). -/

namespace Sys2Proof.Machine

open State

/-- Settles O1: the queue is what `step` looks at first. -/
theorem stepRunsFrontCommand : Obligations.StepRunsFrontCommand := by
  unfold Obligations.StepRunsFrontCommand
  intro c rest s hqueue
  rw [step, hqueue]

namespace State

section
variable {s t : State}

/-- What a state holds from outside the device: the straps it sampled and the commands that wait. -/
def given (s : State) : Straps × List Instr := (s.straps, s.pending)

theorem given_eq_iff : t.given = s.given ↔ t.straps = s.straps ∧ t.pending = s.pending := Prod.mk_inj

theorem given_of_outer (h : t.outer = s.outer) : t.given = s.given := congrArg (fun o => (o.2.1, o.2.2.1)) h

/-- The state a request is taken in differs by acts inside the device and by its frame. -/
theorem given_taken (s : State) : s.taken.given = s.given :=
  given_of_outer (t := s.settle) s.outer_settle

end

/-! ## The acts of the port change the port alone -/

theorem endWrite_portOnly (s : State) : ∃ p, s.endWrite = { s with port := p } := by
  cases h : s.port.transaction with
  | idle => exact ⟨s.port, endWrite_of_idle h⟩
  | write x received =>
    rw [endWrite_of_write h]
    obtain h | ⟨code, st, h⟩ | ⟨code, params, h⟩ := (s.setTransaction .idle).judgeWrite_cases x received
    all_goals exact ⟨_, h⟩

theorem writeAddress_portOnly (s : State) (a : BitVec 7) : ∃ p, s.writeAddress a = { s with port := p } := by
  obtain ⟨p, hend⟩ := s.endWrite_portOnly
  rw [writeAddress, hend]
  simp only
  repeat' split
  all_goals exact ⟨_, rfl⟩

theorem writeByte_portOnly (s : State) (b : Byte) : ∃ p, s.writeByte b = { s with port := p } := by
  unfold writeByte
  split <;> exact ⟨_, rfl⟩

theorem readPage_portOnly (s : State) (a : BitVec 7) (n : Nat) : ∃ p, s.readPage a n = { s with port := p } := by
  obtain ⟨p, hend⟩ := s.endWrite_portOnly
  rw [readPage, hend]
  simp only
  repeat' split
  all_goals exact ⟨_, rfl⟩

end State

/-! ## Every command -/

/-- The command answers a next state, with the straps and the queue of the state it met. -/
def KeepsGiven (i : Instr) : Prop := ∀ s : State, ∃ t, exec i s = .next t ∧ t.given = s.given

theorem KeepsGiven.of_request {i : Instr} {x : Seat} {c : RequestClass} (hr : requestOf i = some (x, c)) : KeepsGiven i := by
  intro s
  obtain ⟨body, hbody, hexec⟩ := exec_request hr
  obtain ⟨t, ht⟩ := request_next i x c (refusedPayload i) body s
  refine ⟨t, (hexec s).trans ht, ?_⟩
  obtain rfl | ⟨st, rfl⟩ | rfl := request_cases ht
  · rfl
  · exact s.given_taken
  · have hinner : (body s.taken).state.given = s.taken.given := given_eq_iff.2 ⟨hbody.straps _, hbody.pending _⟩
    exact hinner.trans s.given_taken

theorem KeepsGiven.of_port {i : Instr} {act : State → State} (hexec : ∀ s, exec i s = .next (act s))
    (hact : ∀ s, ∃ p, act s = { s with port := p }) : KeepsGiven i := by
  intro s
  obtain ⟨p, hp⟩ := hact s
  exact ⟨_, hexec s, (congrArg given hp).trans rfl⟩

theorem KeepsGiven.of_outer {i : Instr} {act : State → State} (hexec : ∀ s, exec i s = .next (act s))
    (hact : ∀ s, (act s).outer = s.outer) : KeepsGiven i :=
  fun s => ⟨_, hexec s, given_of_outer (hact s)⟩

/-- Every command but a device reset keeps the straps and the queue: a request by its body, an act of the port because it changes the port
alone, an act of a block because the outside is not its own. -/
theorem keepsGiven_of_not_reset {i : Instr} (hi : ∀ st, i ≠ .powerOnReset st ∧ i ≠ .pinReset st) : KeepsGiven i := by
  cases hr : requestOf i with
  | some xc => exact .of_request hr
  | none =>
    cases i
    case powerOnReset st => exact absurd rfl (hi st).1
    case pinReset st => exact absurd rfl (hi st).2
    case writeAddress a => exact .of_port (fun _ => rfl) (writeAddress_portOnly · a)
    case writeByteReceived b => exact .of_port (fun _ => rfl) (writeByte_portOnly · b)
    case writeEnd => exact .of_port (fun _ => rfl) endWrite_portOnly
    case readPage a n => exact .of_port (fun _ => rfl) (readPage_portOnly · a n)
    case resetHeldLow => exact .of_port (fun _ => rfl) fun _ => ⟨_, rfl⟩
    case rampStep k => exact .of_outer (fun _ => rfl) (outer_rampStep · k)
    case rampComplete k => exact .of_outer (fun _ => rfl) (outer_completeRamp · k)
    all_goals cases hr
    all_goals exact .of_outer (fun _ => rfl) fun s => by simp

/-- Settles O3: a device reset hands the queue on, and every other command keeps queue and straps. -/
theorem everyCommandCompletes : Obligations.EveryCommandCompletes := by
  unfold Obligations.EveryCommandCompletes
  intro c s
  by_cases hreset : ∃ st, c = .powerOnReset st ∨ c = .pinReset st
  case pos =>
    obtain ⟨st, hst⟩ := hreset
    refine ⟨_, exec_deviceReset s hst, rfl, fun hne => ?_⟩
    exact (hst.elim (hne st).1 (hne st).2).elim
  case neg =>
    have hne : ∀ st, c ≠ .powerOnReset st ∧ c ≠ .pinReset st := by simpa using hreset
    obtain ⟨t, hexec, hgiven⟩ := keepsGiven_of_not_reset hne s
    obtain ⟨hstraps, hpending⟩ := given_eq_iff.1 hgiven
    exact ⟨t, hexec, hpending, fun _ => hstraps⟩

end Sys2Proof.Machine
end

section
/-! PROOFS. The allocation invariant says nothing of the cells a ramp names, so a step does not keep it (R24, R28, R71, R139). -/

namespace Sys2Proof.Machine

open State

namespace StrayRamp

/-- A CLOSED lease that still carries a ramp, and the ramp names cell 1. -/
def lease : Lease :=
  { owner := .s, terminal := 0, target := 50, compliance := 1000, rampTime := some 64, tolerance := none, regulate := false
    policy := .suspend, waitLimit := 0, tag := none, range := none, alloc := none, duration := none
    state := .closed .cancelled, ramp := some ⟨0, 50, 64, 0, 0, [⟨1, 0, 32⟩]⟩, rampCount := 1#8, lastMeasurement := none
    railLost := false, changed := false }

/-- A test of cells 0 and 1 in bank 0, with cell 0 under test. -/
def test : TestRecord := ⟨0, .retain, [0, 1], some ⟨0, .low, .gain, true, 64⟩, false⟩

/-- The reset state with that lease in slot 0, that test running, and the next step of the ramp waiting. -/
def state : State :=
  { (((State.reset.putLease 0 lease).setBank 0 { State.reset.bank 0 with state := .testing none }).setCell 0
      ⟨.testing, .untested, none⟩).setCell 1 ⟨.testing, .untested, none⟩ with
    selfTest := some test, pending := [.rampStep 0] }

theorem lease_state (k : Fin 32) : state.lease? k = if 0 = k then some lease else none :=
  (lease_putLease ..).trans (by rw [State.reset, lease_afterReset])

theorem bank_state (b : Fin 4) : state.bank b = if 0 = b then { State.reset.bank 0 with state := .testing none } else State.reset.bank b :=
  bank_setBank ..

theorem cell_state (c : Fin 24) :
    state.cell c = if c = 0 ∨ c = 1 then ⟨.testing, .untested, none⟩ else ⟨.free, .untested, none⟩ := by
  have hc : state.cell c = if 1 = c then (⟨.testing, .untested, none⟩ : CellEntry) else
      if 0 = c then ⟨.testing, .untested, none⟩ else State.reset.cell c := by
    simp only [state]
    exact (cell_setCell ..).trans (by rw [cell_setCell]; rfl)
  rw [hc, State.reset, cell_afterReset]
  grind


theorem drive_state (c : Fin 24) : state.drive c = ⟨0, .low⟩ := drive_afterReset State.reset.straps (.replicate 4 false) [] c

theorem terminal_state (m : Fin 16) : state.terminal m = ⟨none, .discharge, .discharge, true⟩ := terminal_afterReset State.reset.straps (.replicate 4 false) [] m

theorem committed_state (b : Fin 4) : state.committed b = 0 := committed_afterReset State.reset.straps (.replicate 4 false) [] b

theorem alloc_state (k : Fin 32) : (state.lease? k).bind (·.alloc) = none := by
  rw [lease_state]
  split <;> rfl

theorem leasesOn_state (b : Fin 4) : state.leasesOn b = [] := by simp [leasesOn, alloc_state]

theorem holder_state (c : Fin 24) : (state.cell c).state.holder? = none ∧ (state.cell c).route = none := by
  rw [cell_state]
  split <;> exact ⟨rfl, rfl⟩

theorem cellsSound_state : state.cellsSound := by
  refine ⟨fun k l hl => ?_, fun c => ?_⟩
  · rw [lease_state] at hl
    split at hl <;> cases hl
    exact ⟨rfl, fun a ha => nomatch ha⟩
  · obtain ⟨hholder, hroute⟩ := holder_state c
    exact ⟨fun h hh => (by rw [hholder] at hh; cases hh), fun _ => hroute⟩

theorem budgetSound_state : state.budgetSound := fun b => by simp [committed_state, leasesOn_state]

theorem banksSound_state : state.banksSound := fun b => by
  simp only [leasesOn_state, bank_state, List.countP_nil, List.isEmpty_nil]
  revert b
  decide

theorem holdersSound_state : state.holdersSound := by
  refine ⟨fun k l hl hh => ?_, fun m => ?_⟩
  · rw [lease_state] at hl
    split at hl <;> cases hl
    exact absurd hh (by decide)
  · rw [terminal_state]
    exact ⟨fun h hh => (nomatch hh), fun _ => rfl⟩

theorem testSound_state : state.testSound := by
  have htest : state.selfTest = some test := rfl
  simp only [testSound, htest, Option.mem_some_iff, forall_eq', exists_eq_left', bank_state, cell_state]
  decide

theorem codesSound_state : state.codesSound := fun c hc => absurd (congrArg CellDrive.code (drive_state c)) hc

theorem allocationSound_state : state.allocationSound := by
  refine ⟨cellsSound_state, budgetSound_state, banksSound_state, holdersSound_state, testSound_state, codesSound_state, fun x => ?_⟩
  simp [allottedCount, holder_state]

theorem handlesSound_state : state.handlesSound :=
  handlesSound_of_gen (s := State.reset) (fun k => State.reset.gen_putLease 0 k lease) resetSatisfiesInvariants.1.2.1

/-- The step writes the ramp's code 1 to cell 1, which is TESTING but not under test. -/
theorem code_step : ∃ t, step state = .next t ∧ (t.drive 1).code = 1 ∧ t.selfTest = some test ∧ (t.cell 1).state = .testing :=
  ⟨_, rfl, by decide, rfl, by decide⟩

theorem not_codesSound {s : State} (hcode : (s.drive 1).code = 1) (htest : s.selfTest = some test)
    (hcell : (s.cell 1).state = .testing) : ¬ s.codesSound := by
  intro h
  obtain ⟨-, hunder⟩ := h 1 (by rw [hcode]; decide)
  obtain ⟨t, ht, st, hst, hc⟩ := hunder hcell
  rw [htest] at ht
  cases ht
  cases hst
  exact absurd hc (by decide)

end StrayRamp

/-- Refutes O16: `allocationSound` does not ask that a ramp names cells of its own lease, so the state `StrayRamp.state` meets it, and a
RAMP_STEP there gives a code to a TESTING cell that is not under test. -/
theorem not_stepKeepsAllocationSound : ¬ Obligations.StepKeepsAllocationSound := by
  unfold Obligations.StepKeepsAllocationSound
  rintro ⟨hkeeps, -⟩
  obtain ⟨t, hstep, hcode, htest, hcell⟩ := StrayRamp.code_step
  obtain ⟨-, -, -, -, -, hcodes, -⟩ := hkeeps _ t StrayRamp.handlesSound_state StrayRamp.allocationSound_state hstep
  exact StrayRamp.not_codesSound hcode htest hcell hcodes

end Sys2Proof.Machine
end

section
/-! PROOFS. What a tick of the clock leaves in the tables (R37, R39, R64, R71, R77, R133), and that every step keeps the output pins as the
rest of the state asks (R46, 2.5.2, R163). -/

namespace Sys2Proof.Machine

open State

namespace State

section
variable (s : State)

/-! ## The tables after a tick -/

@[simp] theorem bank_clockTick (b : Fin 4) : s.clockTick.bank b = s.tickBank b := by simp [clockTick, bank]

@[simp] theorem gen_slot_clockTick (k : Fin 32) : (s.clockTick.slot k).gen = (s.slot k).gen := gen_clockTick s k

@[simp] theorem lease_clockTick (k : Fin 32) : s.clockTick.lease? k = (s.lease? k).map s.tickLease := by
  simp [clockTick, lease?, slot]

@[simp] theorem seat_clockTick (x : Seat) :
    s.clockTick.seat x = { s.seat x with keepalive := s.tickKeepalive (s.seat x).keepalive } := by simp [clockTick, seat]

@[simp] theorem resolve_clockTick (h : Handle) :
    s.clockTick.resolve h = (s.resolve h).map fun kl => (kl.1, s.tickLease kl.2) := by
  simp only [resolve, gen_slot_clockTick, lease_clockTick]
  split <;> [rfl; (split <;> simp [Function.comp_def])]

/-! ## What the pins follow, after a tick -/

/-- A tick moves a bank's timers, not its state. -/
theorem railEnabled_tickBank (b : Fin 4) : (s.tickBank b).state.railEnabled = (s.bank b).state.railEnabled := by
  unfold tickBank
  simp only
  split <;> simp_all [BankState.railEnabled]

end

/-- The states of a holder under which its terminal's discharge switch is closed (R46). -/
def switchState : LeaseState → Bool
  | .starting .wake | .suspended _ => true
  | .waiting _ _ | .starting .ramp | .verifying | .active _ _ | .rampdown _ | .closed _ => false

theorem switchState_iff {st : LeaseState} : switchState st = true ↔ st = .starting .wake ∨ ∃ why, st = .suspended why := by
  cases st with
  | starting p => cases p <;> simp [switchState]
  | _ => simp [switchState]

section
variable (s : State)

theorem switchWanted_eq (m : Fin 16) : s.switchWanted m = ((s.terminal m).idle == .discharge &&
    (s.terminal m).holder.elim true fun h => (s.resolve h).any fun kl => switchState kl.2.state) := by
  unfold switchWanted
  cases (s.terminal m).holder with
  | none => rfl
  | some h => cases hr : s.resolve h <;> simp only [Option.elim_some, hr] <;> rfl

/-- A tick keeps a lease in its state. -/
theorem switchState_tickLease (l : Lease) : switchState (s.tickLease l).state = switchState l.state := by
  unfold tickLease
  simp only
  split <;> simp_all [switchState]

theorem switchWanted_clockTick (m : Fin 16) : s.clockTick.switchWanted m = s.switchWanted m := by
  have hm : s.clockTick.terminal m = s.terminal m := rfl
  simp only [switchWanted_eq, hm, resolve_clockTick, Option.any_map, switchState_tickLease]

theorem attention_clockTick : s.clockTick.attention = s.attention := by simp [attention, pendingEvents]

end

/-! ## Every step -/

/-- The pins read nothing of the port. -/
theorem pinsAgree_of_port {s t : State} (h : ∃ p, t = { s with port := p }) (hs : s.pinsAgree) : t.pinsAgree := by
  obtain ⟨p, rfl⟩ := h
  exact hs

theorem pinsAgree_clockTick {s : State} (hs : s.pinsAgree) : s.clockTick.pinsAgree := by
  obtain ⟨hswitch, hrail, hattn⟩ := hs
  refine ⟨fun m => ?_, fun b => ?_, ?_⟩
  · exact (hswitch m).trans (s.switchWanted_clockTick m).symm
  · rw [bank_clockTick, railEnabled_tickBank]
    exact hrail b
  · exact hattn.trans s.attention_clockTick.symm

end State

/-- A command ends with the pins set, or moves nothing they follow (log 25). -/
theorem exec_keeps_pinsAgree {i : Instr} {s t : State} (hs : s.pinsAgree) (h : exec i s = .next t) : t.pinsAgree := by
  cases hr : requestOf i with
  | some xc =>
    obtain ⟨body, -, hexec⟩ := exec_request hr
    obtain rfl | ⟨st, rfl⟩ | rfl := request_cases ((hexec s).symm.trans h)
    · exact hs
    all_goals exact pinsAgree_driveOutputs _
  | none =>
    cases i
    case writeAddress a => cases h; exact pinsAgree_of_port (s.writeAddress_portOnly a) hs
    case writeByteReceived b => cases h; exact pinsAgree_of_port (s.writeByte_portOnly b) hs
    case writeEnd => cases h; exact pinsAgree_of_port s.endWrite_portOnly hs
    case readPage a n => cases h; exact pinsAgree_of_port (s.readPage_portOnly a n) hs
    case resetHeldLow => cases h; exact pinsAgree_of_port ⟨_, rfl⟩ hs
    all_goals cases hr
    all_goals cases h
    all_goals exact pinsAgree_driveOutputs _

theorem idle_keeps_pinsAgree {s : State} (hs : s.pinsAgree) : s.idle.pinsAgree := by
  unfold idle
  split
  · exact hs
  · exact pinsAgree_clockTick hs

/-! ## The conditions, written out -/

theorem switchWanted_iff {s : State} {m : Fin 16} : s.switchWanted m = true ↔
    (s.terminal m).idle = .discharge ∧ ((s.terminal m).holder = none ∨ ∃ h k l, (s.terminal m).holder = some h ∧
      s.resolve h = some (k, l) ∧ (l.state = .starting .wake ∨ ∃ why, l.state = .suspended why)) := by
  rw [switchWanted_eq, Bool.and_eq_true, beq_iff_eq]
  refine and_congr_right fun _ => ?_
  cases (s.terminal m).holder with
  | none => simp
  | some h => simp [Option.any_eq_true, switchState_iff]

theorem railEnabled_iff {st : BankState} : st.railEnabled = true ↔
    (∃ w, st = .waking w) ∨ st = .on ∨ (∃ n u, st = .linger n u) ∨ ∃ w, st = .testing w := by
  cases st <;> simp [BankState.railEnabled]

/-- A set of events is not empty when one of its 16 bits is set. -/
theorem eventSet_ne_zero {e : EventSet} : e ≠ 0#16 ↔ ∃ i, i < 16 ∧ e.getLsbD i = true := by
  constructor
  · intro he
    by_contra hall
    push Not at hall
    exact he (BitVec.eq_of_getLsbD_eq fun i hi => by simpa using hall i hi)
  · rintro ⟨i, -, hi⟩ rfl
    simp at hi

theorem attention_iff {s : State} : s.attention = true ↔ ∃ x, (s.seat x).enabled = true ∧ ∃ i, i < 16 ∧
    (s.seat x).latched.getLsbD i = true ∧ (s.seat x).acked.getLsbD i = false ∧ (s.seat x).mask.getLsbD i = true := by
  have hbits (x : Seat) : s.pendingEvents x &&& (s.seat x).mask ≠ 0#16 ↔ ∃ i, i < 16 ∧ (s.seat x).latched.getLsbD i = true ∧
      (s.seat x).acked.getLsbD i = false ∧ (s.seat x).mask.getLsbD i = true := by
    rw [eventSet_ne_zero]
    refine exists_congr fun i => and_congr_right fun hi => ?_
    simp [pendingEvents, hi, and_assoc]
  simp only [attention, List.any_eq_true, Bool.and_eq_true, bne_iff_ne, hbits]
  exact ⟨fun ⟨x, _, hx⟩ => ⟨x, hx⟩, fun ⟨x, hx⟩ => ⟨x, seat_mem_all x, hx⟩⟩

/-- Settles O4: a command ends with its pins set or is the port's own, and a tick moves timers alone. -/
theorem stepKeepsPinsAgreeing : Obligations.StepKeepsPinsAgreeing := by
  unfold Obligations.StepKeepsPinsAgreeing
  refine ⟨fun s t hs h => ?_, fun s => ⟨Iff.rfl, fun m => switchWanted_iff, fun st => railEnabled_iff, attention_iff⟩⟩
  unfold step at h
  split at h
  · refine exec_keeps_pinsAgree ?_ h
    exact hs
  · cases h
    exact idle_keeps_pinsAgree hs

end Sys2Proof.Machine
end

section
/-! PROOFS. The work that is due inside the device, list by list, and the step with no command waiting (0.3, R37, R39, R64, R71, R73, R77,
R105, R133; logs 4 and 21). -/

namespace Sys2Proof.Machine

open State

namespace State

section
variable (s : State)

/-! ## What each source of work asks for -/

/-- The lease in the slot has this ramp in flight. -/
def Ramping (k : Fin 32) (r : Ramp) : Prop := ∃ l, s.lease? k = some l ∧ l.ramp = some r

/-- The lease in the slot has a zero-time ramp in flight (R73). -/
def Zero (k : Fin 32) : Prop := ∃ r, s.Ramping k r ∧ r.time = 0

/-- The part-second has come to a whole second in RUN. -/
def Second (part : Nat) : Prop := s.held = false ∧ 32000 ≤ part

/-- The duration of the lease in the slot has gathered a second (R77). -/
def Running (k : Fin 32) (d : Duration) : Prop :=
  ∃ l st part, s.lease? k = some l ∧ l.state = .active st part ∧ l.duration = some d ∧ s.Second part

/-- The wait of the lease in the slot has gathered a second (R64). -/
def Waiting (k : Fin 32) (n : Nat) : Prop := ∃ l part, s.lease? k = some l ∧ l.state = .waiting n part ∧ s.Second part

/-- The keepalive of the seat has gathered a second (R133). -/
def Armed (x : Seat) (n : Nat) : Prop := ∃ part, (s.seat x).keepalive = .armed n part ∧ s.Second part

/-- The linger of the bank has gathered a second (R39). -/
def Lingers (b : Fin 4) (n : Nat) : Prop := ∃ part, (s.bank b).state = .linger n part ∧ s.Second part

/-- When a command is due for a reason other than a frame. -/
def DueInside : Instr → Prop
  | .rampComplete k => (s.Zero k ∧ ∀ j, j < k → ¬s.Zero j) ∨ ∃ r, s.Ramping k r ∧ 32 ≤ r.step
  | .rampStep k => ∃ r, s.Ramping k r ∧ r.step < 32 ∧ (r.step + 1) * r.time ≤ r.elapsed
  | .bankOnNotice b => b ∈ s.engine.bankOnNotices
  | .lapseNotice x => ∃ n ∈ s.engine.lapseNotices, n.seat = x
  | .resultDelivery => s.engine.results ≠ []
  | .waitExpiryNotice h => h ∈ s.allocator.waitExpiryNotices
  | .faultNotice => ∃ n ∈ s.pool.notices, n.isFault = true
  | .scanResultMatch => ∃ n ∈ s.pool.notices, n.isFault = false
  | .wakeTimeout b => (s.bank b).state = .waking 0 ∨ (s.bank b).state = .testing (some 0)
  | .lingerSecond b => ∃ n, s.Lingers b n ∧ 2 ≤ n
  | .lingerExpiry b => ∃ n, s.Lingers b n ∧ n ≤ 1
  | .durationSecond k => ∃ d, s.Running k d ∧ 2 ≤ d.remaining
  | .durationExpiry k => ∃ d, s.Running k d ∧ d.remaining ≤ 1
  | .waitSecond k => ∃ n, s.Waiting k n ∧ 2 ≤ n
  | .waitTimerExpiry k => s.Waiting k 1
  | .keepaliveSecond x => ∃ n, s.Armed x n ∧ 2 ≤ n
  | .keepaliveExpiry x => ∃ n, s.Armed x n ∧ n ≤ 1
  | .dwellElapses => s.meas.dwell = some 0
  | _ => False

end

section
variable {s : State} {c : Instr}

theorem secondDue_iff {part : Nat} : s.secondDue part = true ↔ s.Second part := by
  rw [secondDue, Bool.and_eq_true, Bool.not_eq_true', decide_eq_true_eq]
  rfl

theorem zeroRamp_iff_zero {k : Fin 32} : s.zeroRamp k = true ↔ s.Zero k := by
  rw [Machine.zeroRamp_iff]
  exact ⟨fun ⟨l, r, hl, hr, ht⟩ => ⟨r, ⟨l, hl, hr⟩, ht⟩, fun ⟨r, ⟨l, hl, hr⟩, ht⟩ => ⟨l, r, hl, hr, ht⟩⟩

theorem dueSlot_eq_some_zero {k : Fin 32} : s.dueSlot = some k ↔ s.Zero k ∧ ∀ j, j < k → ¬s.Zero j := by
  simp only [Machine.dueSlot_eq_some, ← Bool.not_eq_true, zeroRamp_iff_zero]

theorem mem_dueCompletion : c ∈ s.dueCompletion ↔ ∃ k, c = .rampComplete k ∧ s.Zero k ∧ ∀ j, j < k → ¬s.Zero j := by
  simp only [dueCompletion, List.mem_map, Option.mem_toList, dueSlot_eq_some_zero]
  exact exists_congr fun k => by rw [and_comm, eq_comm]

theorem dueFrame_eq {f : Frame} {rest : List Frame} (hq : s.port.requestQueue = f :: rest) :
    s.dueFrame = (commandOf f).toList := by simp [dueFrame, hq]

theorem mem_dueFrame : c ∈ s.dueFrame ↔ ∃ f rest, s.port.requestQueue = f :: rest ∧ commandOf f = some c := by
  cases hq : s.port.requestQueue with
  | nil => simp [dueFrame, hq]
  | cons f rest => simp [dueFrame_eq hq]

theorem mem_dueNotices : c ∈ s.dueNotices ↔
    (∃ b, c = .bankOnNotice b ∧ b ∈ s.engine.bankOnNotices) ∨
    (∃ x, c = .lapseNotice x ∧ ∃ n ∈ s.engine.lapseNotices, n.seat = x) ∨ (c = .resultDelivery ∧ s.engine.results ≠ []) ∨
    (∃ h, c = .waitExpiryNotice h ∧ h ∈ s.allocator.waitExpiryNotices) ∨
    (c = .faultNotice ∧ ∃ n ∈ s.pool.notices, n.isFault = true) ∨
    (c = .scanResultMatch ∧ ∃ n ∈ s.pool.notices, n.isFault = false) := by
  simp only [dueNotices, List.mem_append, List.mem_map, or_assoc]
  refine or_congr ⟨?_, ?_⟩ (or_congr ⟨?_, ?_⟩ (or_congr ⟨?_, ?_⟩ (or_congr ⟨?_, ?_⟩ ⟨?_, ?_⟩)))
  · rintro ⟨b, hb, rfl⟩
    exact ⟨b, rfl, hb⟩
  · rintro ⟨b, rfl, hb⟩
    exact ⟨b, hb, rfl⟩
  · rintro ⟨n, hn, rfl⟩
    exact ⟨n.seat, rfl, n, hn, rfl⟩
  · rintro ⟨x, rfl, n, hn, rfl⟩
    exact ⟨n, hn, rfl⟩
  · rintro ⟨r, hr, rfl⟩
    exact ⟨rfl, List.ne_nil_of_mem hr⟩
  · rintro ⟨rfl, hr⟩
    obtain ⟨r, hr⟩ := List.exists_mem_of_ne_nil _ hr
    exact ⟨r, hr, rfl⟩
  · rintro ⟨h, hh, rfl⟩
    exact ⟨h, rfl, hh⟩
  · rintro ⟨h, rfl, hh⟩
    exact ⟨h, hh, rfl⟩
  · rintro ⟨n, hn, rfl⟩
    cases n with
    | fault m kind closed => exact .inl ⟨rfl, _, hn, rfl⟩
    | scan m current => exact .inr ⟨rfl, _, hn, rfl⟩
  · rintro (⟨rfl, n, hn, hf⟩ | ⟨rfl, n, hn, hf⟩) <;> cases n <;> cases hf <;> exact ⟨_, hn, rfl⟩

theorem mem_dueBank {b : Fin 4} : c ∈ s.dueBank b ↔
    (c = .wakeTimeout b ∧ ((s.bank b).state = .waking 0 ∨ (s.bank b).state = .testing (some 0))) ∨
    (c = .lingerExpiry b ∧ ∃ n, s.Lingers b n ∧ n ≤ 1) ∨ (c = .lingerSecond b ∧ ∃ n, s.Lingers b n ∧ 2 ≤ n) := by
  unfold dueBank Lingers
  cases (s.bank b).state with
  | waking w => by_cases hw : w = 0 <;> simp [hw]
  | linger n part =>
    by_cases h2 : s.Second part
    · by_cases hn : n ≤ 1
      · simp [secondDue_iff, h2, hn, show ¬ 2 ≤ n by omega]
      · simp [secondDue_iff, h2, hn, show 2 ≤ n by omega]
    · simp [secondDue_iff, h2]
  | testing w =>
    cases w with
    | none => simp
    | some w => by_cases hw : w = 0 <;> simp [hw]
  | _ => simp

/-- What a ramp in flight asks for (R71, R74). -/
theorem mem_dueLease_ramp {r : Ramp} {k : Fin 32} :
    c ∈ (if Config.rampSteps ≤ r.step then [Instr.rampComplete k]
      else if (r.step + 1) * r.time ≤ r.elapsed then [.rampStep k] else []) ↔
    (c = .rampComplete k ∧ 32 ≤ r.step) ∨ (c = .rampStep k ∧ r.step < 32 ∧ (r.step + 1) * r.time ≤ r.elapsed) := by
  rw [Config.rampSteps]
  by_cases h32 : 32 ≤ r.step
  · simp [h32, Nat.not_lt.2 h32]
  · by_cases hdue : (r.step + 1) * r.time ≤ r.elapsed <;> simp [h32, hdue, Nat.lt_of_not_le h32]

theorem running_iff {k : Fin 32} {l : Lease} {st : Bool} {part : Nat} {d e : Duration} (hl : s.lease? k = some l)
    (hst : l.state = .active st part) (hd : l.duration = some d) : s.Running k e ↔ d = e ∧ s.Second part := by
  constructor
  · rintro ⟨m, st', part', hm, hst', hd', h2⟩
    cases hl.symm.trans hm
    cases hst.symm.trans hst'
    cases hd.symm.trans hd'
    exact ⟨rfl, h2⟩
  · rintro ⟨rfl, h2⟩
    exact ⟨l, st, part, hl, hst, hd, h2⟩

theorem waiting_iff {k : Fin 32} {l : Lease} {n m part : Nat} (hl : s.lease? k = some l) (hst : l.state = .waiting n part) :
    s.Waiting k m ↔ n = m ∧ s.Second part := by
  simp [Waiting, hl, hst]

theorem mem_dueLease {k : Fin 32} : c ∈ s.dueLease k ↔
    ((c = .rampComplete k ∧ ∃ r, s.Ramping k r ∧ 32 ≤ r.step) ∨
      (c = .rampStep k ∧ ∃ r, s.Ramping k r ∧ r.step < 32 ∧ (r.step + 1) * r.time ≤ r.elapsed)) ∨
    (c = .durationExpiry k ∧ ∃ d, s.Running k d ∧ d.remaining ≤ 1) ∨
    (c = .durationSecond k ∧ ∃ d, s.Running k d ∧ 2 ≤ d.remaining) ∨
    (c = .waitTimerExpiry k ∧ s.Waiting k 1) ∨ (c = .waitSecond k ∧ ∃ n, s.Waiting k n ∧ 2 ≤ n) := by
  unfold dueLease
  cases hl : s.lease? k with
  | none => simp [Ramping, Running, Waiting, hl]
  | some l =>
    rw [List.mem_append]
    refine or_congr ?_ ?_
    · cases hr : l.ramp with
      | none => simp [Ramping, hl, hr]
      | some r => simp [Ramping, hl, hr, mem_dueLease_ramp]
    · cases hst : l.state with
      | active st part =>
        have hwait (n : Nat) : ¬s.Waiting k n := by simp [Waiting, hl, hst]
        cases hd : l.duration with
        | none => simp [hwait, Running, hl, hd]
        | some d =>
          by_cases h2 : s.Second part
          · by_cases hn : d.remaining ≤ 1
            · simp [hwait, running_iff hl hst hd, secondDue_iff, h2, hn, show ¬2 ≤ d.remaining by omega]
            · simp [hwait, running_iff hl hst hd, secondDue_iff, h2, hn, show 2 ≤ d.remaining by omega]
          · simp [hwait, running_iff hl hst hd, secondDue_iff, h2]
      | waiting n part =>
        have hrun (d : Duration) : ¬s.Running k d := by simp [Running, hl, hst]
        by_cases h2 : s.Second part
        · obtain rfl | rfl | hn : n = 0 ∨ n = 1 ∨ 2 ≤ n := by omega
          · simp [hrun, waiting_iff hl hst]
          · simp [hrun, waiting_iff hl hst, secondDue_iff, h2]
          · simp [hrun, waiting_iff hl hst, secondDue_iff, h2, hn, show n ≠ 0 by omega, show n ≠ 1 by omega]
        · simp [hrun, waiting_iff hl hst, secondDue_iff, h2]
      | _ => simp [Running, Waiting, hl, hst]

theorem mem_dueSeat {x : Seat} : c ∈ s.dueSeat x ↔
    (c = .keepaliveExpiry x ∧ ∃ n, s.Armed x n ∧ n ≤ 1) ∨ (c = .keepaliveSecond x ∧ ∃ n, s.Armed x n ∧ 2 ≤ n) := by
  unfold dueSeat Armed
  cases (s.seat x).keepalive with
  | armed n part =>
    by_cases h2 : s.Second part
    · by_cases hn : n ≤ 1
      · simp [secondDue_iff, h2, hn, show ¬ 2 ≤ n by omega]
      · simp [secondDue_iff, h2, hn, show 2 ≤ n by omega]
    · simp [secondDue_iff, h2]
  | _ => simp

theorem mem_dueDwell : c ∈ s.dueDwell ↔ c = .dwellElapses ∧ s.meas.dwell = some 0 := by
  unfold dueDwell
  split <;> simp_all

/-- What is due besides the frame. -/
theorem mem_due_iff : c ∈ s.due ↔ c ∈ s.dueFrame ∨ c ∈ s.dueCompletion ∨ c ∈ s.dueNotices ∨ (∃ b, c ∈ s.dueBank b) ∨
    (∃ k, c ∈ s.dueLease k) ∨ (∃ x, c ∈ s.dueSeat x) ∨ c ∈ s.dueDwell := by
  simp only [due, List.mem_append, List.mem_flatMap, allBanks, allSlots, List.mem_finRange, true_and, seat_mem_all, or_assoc]
  exact or_left_comm

theorem dueInside_of_mem (h : c ∈ s.dueCompletion ∨ c ∈ s.dueNotices ∨ (∃ b, c ∈ s.dueBank b) ∨ (∃ k, c ∈ s.dueLease k) ∨
    (∃ x, c ∈ s.dueSeat x) ∨ c ∈ s.dueDwell) : s.DueInside c := by
  obtain h | h | ⟨b, h⟩ | ⟨k, h⟩ | ⟨x, h⟩ | h := h
  · obtain ⟨k, rfl, hd⟩ := mem_dueCompletion.1 h
    exact .inl hd
  · obtain ⟨_, rfl, hd⟩ | ⟨_, rfl, hd⟩ | ⟨rfl, hd⟩ | ⟨_, rfl, hd⟩ | ⟨rfl, hd⟩ | ⟨rfl, hd⟩ := mem_dueNotices.1 h
    all_goals exact hd
  · obtain ⟨rfl, hd⟩ | ⟨rfl, hd⟩ | ⟨rfl, hd⟩ := mem_dueBank.1 h
    all_goals exact hd
  · obtain (⟨rfl, hd⟩ | ⟨rfl, hd⟩) | ⟨rfl, hd⟩ | ⟨rfl, hd⟩ | ⟨rfl, hd⟩ | ⟨rfl, hd⟩ := mem_dueLease.1 h
    · exact .inr hd
    all_goals exact hd
  · obtain ⟨rfl, hd⟩ | ⟨rfl, hd⟩ := mem_dueSeat.1 h
    all_goals exact hd
  · obtain ⟨rfl, hd⟩ := mem_dueDwell.1 h
    exact hd

theorem mem_of_dueInside (h : s.DueInside c) : c ∈ s.dueCompletion ∨ c ∈ s.dueNotices ∨ (∃ b, c ∈ s.dueBank b) ∨
    (∃ k, c ∈ s.dueLease k) ∨ (∃ x, c ∈ s.dueSeat x) ∨ c ∈ s.dueDwell := by
  simp only [mem_dueCompletion, mem_dueNotices, mem_dueBank, mem_dueLease, mem_dueSeat, mem_dueDwell]
  cases c
  case rampComplete k =>
    obtain h | h := h
    · exact .inl ⟨k, rfl, h⟩
    · exact .inr (.inr (.inr (.inl ⟨k, .inl (.inl ⟨rfl, h⟩)⟩)))
  case rampStep k => exact .inr (.inr (.inr (.inl ⟨k, .inl (.inr ⟨rfl, h⟩)⟩)))
  case bankOnNotice b => exact .inr (.inl (.inl ⟨b, rfl, h⟩))
  case lapseNotice x => exact .inr (.inl (.inr (.inl ⟨x, rfl, h⟩)))
  case resultDelivery => exact .inr (.inl (.inr (.inr (.inl ⟨rfl, h⟩))))
  case waitExpiryNotice g => exact .inr (.inl (.inr (.inr (.inr (.inl ⟨g, rfl, h⟩)))))
  case faultNotice => exact .inr (.inl (.inr (.inr (.inr (.inr (.inl ⟨rfl, h⟩))))))
  case scanResultMatch => exact .inr (.inl (.inr (.inr (.inr (.inr (.inr ⟨rfl, h⟩))))))
  case wakeTimeout b => exact .inr (.inr (.inl ⟨b, .inl ⟨rfl, h⟩⟩))
  case lingerExpiry b => exact .inr (.inr (.inl ⟨b, .inr (.inl ⟨rfl, h⟩)⟩))
  case lingerSecond b => exact .inr (.inr (.inl ⟨b, .inr (.inr ⟨rfl, h⟩)⟩))
  case durationExpiry k => exact .inr (.inr (.inr (.inl ⟨k, .inr (.inl ⟨rfl, h⟩)⟩)))
  case durationSecond k => exact .inr (.inr (.inr (.inl ⟨k, .inr (.inr (.inl ⟨rfl, h⟩))⟩)))
  case waitTimerExpiry k => exact .inr (.inr (.inr (.inl ⟨k, .inr (.inr (.inr (.inl ⟨rfl, h⟩)))⟩)))
  case waitSecond k => exact .inr (.inr (.inr (.inl ⟨k, .inr (.inr (.inr (.inr ⟨rfl, h⟩)))⟩)))
  case keepaliveExpiry x => exact .inr (.inr (.inr (.inr (.inl ⟨x, .inl ⟨rfl, h⟩⟩))))
  case keepaliveSecond x => exact .inr (.inr (.inr (.inr (.inl ⟨x, .inr ⟨rfl, h⟩⟩))))
  case dwellElapses => exact .inr (.inr (.inr (.inr (.inr ⟨rfl, h⟩))))
  all_goals exact h.elim

/-- What is due is the oldest frame's command and what the blocks ask for. -/
theorem mem_due : c ∈ s.due ↔
    (∃ f rest, s.port.requestQueue = f :: rest ∧ commandOf f = some c) ∨ s.DueInside c := by
  rw [mem_due_iff, mem_dueFrame]
  exact or_congr_right ⟨dueInside_of_mem, mem_of_dueInside⟩

/-! ## The order of the first two -/

theorem due_head_completion {k : Fin 32} (h : s.Zero k) (hlow : ∀ j, j < k → ¬s.Zero j) :
    s.due.head? = some (.rampComplete k) := by
  simp [due, dueCompletion, dueSlot_eq_some_zero.2 ⟨h, hlow⟩]

theorem due_head_frame {f : Frame} {rest : List Frame} (h : ∀ k, ¬s.Zero k) (hq : s.port.requestQueue = f :: rest)
    (hf : commandOf f = some c) : s.due.head? = some c := by
  have hnone : s.dueSlot = none := (dueSlot_eq_none _).2 fun k => by
    rw [← Bool.not_eq_true, zeroRamp_iff_zero]
    exact h k
  simp [due, dueCompletion, hnone, dueFrame_eq hq, hf]

/-! ## A tick, written out -/

theorem tickBank_eq (s : State) (b : Fin 4) : s.tickBank b = match (s.bank b).state with
    | .waking w => { s.bank b with state := .waking (w - 1) }
    | .testing (some w) => { s.bank b with state := .testing (some (w - 1)) }
    | .linger n part => { s.bank b with state := .linger n (if s.held then part else part + 1) }
    | _ => s.bank b := by
  unfold tickBank
  cases hst : (s.bank b).state with
  | testing w => cases w <;> simp [← hst]
  | _ => simp [← hst]

theorem tickLease_eq (s : State) (l : Lease) : s.tickLease l = { l with
    ramp := l.ramp.map fun r => { r with elapsed := r.elapsed + 1 }
    state := match l.state with
      | .active st part =>
        if l.duration.isSome then .active st (if s.held then part else part + 1) else .active st part
      | .waiting n part => .waiting n (if s.held then part else part + 1)
      | st => st } := by
  unfold tickLease
  cases l.state with
  | active st part => cases l.duration <;> rfl
  | _ => rfl

theorem tickSeat_eq (s : State) (x : Seat) : { s.seat x with keepalive := s.tickKeepalive (s.seat x).keepalive } =
    match (s.seat x).keepalive with
    | .armed n part => { s.seat x with keepalive := .armed n (if s.held then part else part + 1) }
    | _ => s.seat x := by
  cases hk : (s.seat x).keepalive with
  | armed n part => rfl
  | _ => simp only [tickKeepalive, ← hk]

end

end State

theorem step_of_empty {s : State} (h : s.pending = []) : step s = .next s.idle := by rw [step, h]

/-- Settles O2: the lists of due work say what is due and in which order, and a tick moves the running timers alone. -/
theorem emptyQueueStepAdvancesDevice : Obligations.EmptyQueueStepAdvancesDevice := by
  unfold Obligations.EmptyQueueStepAdvancesDevice
  refine ⟨fun s hs => ⟨fun c cs hdue => ?_, fun hdue => ?_⟩, fun s => ?due, fun s => ?tick⟩
  · rw [step_of_empty hs, idle, hdue]
  · rw [step_of_empty hs, idle, hdue]
  case due =>
    exact ⟨fun k hk hlow => due_head_completion hk hlow, fun f rest i hz hq hf => due_head_frame hz hq hf, fun c => mem_due⟩
  case tick =>
    intro t counted
    exact ⟨fun b => (s.bank_clockTick b).trans (s.tickBank_eq b),
      fun k => ⟨s.gen_slot_clockTick k, (s.lease_clockTick k).trans (congrArg (Option.map · _) (funext s.tickLease_eq))⟩,
      fun x => (s.seat_clockTick x).trans (s.tickSeat_eq x), rfl, rfl, rfl⟩

end Sys2Proof.Machine
end

section
/-! PROOFS. What a device reset leaves in the seat table, in the blocks and on the port, and what a low RESET# holds (R33, R127, R171). -/

namespace Sys2Proof.Machine

open State

/-! ## The seat table after a device reset (R127) -/

section
variable (st : Straps) (g : Vector Bool 4) (cs : List Instr)

theorem seat_s_afterReset : (afterReset st g cs).seat .s = SeatEntry.resetSupervisor st.sadr := rfl

/-- The supervisor's address is the strapped one (R33). -/
theorem address_resetSupervisor (sadr : BitVec 2) : (SeatEntry.resetSupervisor sadr).address = 0x48#7 + sadr.setWidth 7 := by
  revert sadr
  decide

theorem enabled_afterReset (x : Seat) : ((afterReset st g cs).seat x).enabled = decide (x = .s) := by cases x <;> rfl

theorem attention_afterReset : (afterReset st g cs).attention = false := by
  simp [attention, pendingEvents, seat_afterReset]

theorem allottedCount_afterReset (x : Seat) : (afterReset st g cs).allottedCount x = 0 := by
  simp [allottedCount, CellState.holder?]

/-- Seat S alone is enabled, so its address alone is answered. -/
theorem seatAt_afterReset (a : BitVec 7) :
    (afterReset st g cs).seatAt a = if a = 0x48#7 + st.sadr.setWidth 7 then some .s else none := by
  have hs : ((afterReset st g cs).seat .s).address = 0x48#7 + st.sadr.setWidth 7 := address_resetSupervisor st.sadr
  simp only [seatAt, Seat.all, List.find?_cons, enabled_afterReset, hs]
  by_cases ha : a = 0x48#7 + st.sadr.setWidth 7
  · simp [ha]
  · simp [ha, beq_eq_false_iff_ne.2 (Ne.symm ha)]

end

/-- Settles O14: the seat table of the reset state, seat by seat. -/
theorem deviceResetSetsSeats : Obligations.DeviceResetSetsSeats := by
  unfold Obligations.DeviceResetSetsSeats
  intro i st s h
  refine ⟨_, exec_deviceReset s h, ?_, ?_, rfl, rfl,
    fun x => ⟨recordCount_of_empty (fun k => lease_afterReset _ _ _ k) x, allottedCount_afterReset _ _ _ x⟩, seatAt_afterReset _ _ _⟩
  · rw [seat_s_afterReset, ← address_resetSupervisor]
    rfl
  · intro x a hx
    simp only [List.mem_cons, Prod.mk.injEq, List.not_mem_nil, or_false] at hx
    obtain ⟨rfl, rfl⟩ | ⟨rfl, rfl⟩ | ⟨rfl, rfl⟩ | ⟨rfl, rfl⟩ := hx <;> rfl

/-! ## The blocks and the port after a device reset (R33, R171) -/

section
variable (st : Straps) (g : Vector Bool 4) (cs : List Instr)

theorem reset_eq (bcnt : BitVec 2) (good : Bool) (b : Fin 4) : Bank.reset bcnt good b =
    { strapEnabled := decide (b.val < bcnt.toNat + 1), state := if b.val < bcnt.toNat + 1 then .off else .disabled
      rail := 12000, budget := 4000, lingerTime := 5, driving := 0, claims := 0, railEnable := false, railGood := good } := by
  simp [Bank.reset]

theorem page_afterReset (x : Seat) : (afterReset st g cs).page x = ⟨0x00#8, 0x00#8, []⟩ := by cases x <;> rfl

theorem busy_afterReset (x : Seat) : (afterReset st g cs).busy x = false := by cases x <;> rfl

theorem trips_afterReset (n : Fin 4) : (afterReset st g cs).pool.trips[n] = ⟨0, .fault, 0, false, false⟩ :=
  Vector.getElem_replicate ..

end

theorem crcByte_zero : crcByte 0#8 0#8 = 0#8 := by
  have hshift : crcShift 0#8 = 0#8 := by decide
  simp [crcByte, hshift]

/-- The bytes of the IDLE page (R168). -/
theorem bytes_idle : Page.bytes ⟨0x00#8, 0x00#8, []⟩ = [0#8, 0#8, 0#8, 0#8] := by
  simp [Page.bytes, byte, crc8, crcByte_zero]

/-- While RESET# is low with no write in progress, no address is answered (R171). -/
theorem holdReset_answers_none (s : State) (a : BitVec 7) (n : Nat) :
    exec (.writeAddress a) s.holdReset = .next s.holdReset ∧ exec (.readPage a n) s.holdReset = .next s.holdReset := by
  have hend : s.holdReset.endWrite = s.holdReset := endWrite_of_idle rfl
  have hwrite : s.holdReset.writeAddress a = s.holdReset := by
    rw [writeAddress, hend]
    rfl
  have hread : s.holdReset.readPage a n = s.holdReset := by
    rw [readPage, hend]
    rfl
  exact ⟨congrArg Host.Outcome.next hwrite, congrArg Host.Outcome.next hread⟩

/-- Settles O15: the blocks and the port of the reset state, table by table, and the port while RESET# is low. -/
theorem deviceResetSetsBlocks : Obligations.DeviceResetSetsBlocks := by
  unfold Obligations.DeviceResetSetsBlocks
  refine ⟨fun i st s h => ⟨_, exec_deviceReset s h, ?blocks⟩, fun i st s h => ⟨_, exec_deviceReset s h, ?port⟩, fun s => ?low⟩
  case blocks =>
    refine ⟨rfl, fun c => ⟨cell_afterReset _ _ _ c, drive_afterReset _ _ _ c⟩, fun b => ⟨committed_afterReset _ _ _ b, ?_⟩,
      terminal_afterReset _ _ _, rfl, rfl, rfl, rfl, rfl, rfl, rfl, rfl, rfl, rfl, trips_afterReset _ _ _, rfl, rfl, rfl, rfl, rfl, rfl⟩
    rw [bank_afterReset, reset_eq]
    simp
  case port =>
    refine ⟨rfl, rfl, rfl, rfl, fun x => ⟨page_afterReset _ _ _ x, ?_⟩, busy_afterReset _ _ _, rfl, rfl, seatAt_afterReset _ _ _⟩
    rw [page_afterReset, bytes_idle]
  case low => exact ⟨_, rfl, rfl, holdReset_answers_none s⟩

end Sys2Proof.Machine
end

section
/-! PROOFS. The arithmetic of targets, codes, charges and ramp codes (R29 to R31, R71). -/

namespace Sys2Proof.Machine

/-! ## Rounding (0.6) -/

/-- A quotient rounded upward is the least whole number not below it. -/
theorem ceilDiv_bounds (a : Nat) {b : Nat} (hb : 0 < b) : a ≤ ceilDiv a b * b ∧ ceilDiv a b * b < a + b := by
  have hmod : b * ((a + b - 1) / b) + (a + b - 1) % b = a + b - 1 := Nat.div_add_mod ..
  have hlt : (a + b - 1) % b < b := Nat.mod_lt _ hb
  rw [ceilDiv, Nat.mul_comm]
  omega

/-! ## Ranges and cell counts (R29) -/

theorem fullScale_bounds (r : Range) : 0 < r.fullScale ∧ r.fullScale ≤ 100000 := by cases r <;> decide

theorem chooseRange_low {target : Nat} (h : target ≤ 5000) : chooseRange target = .low := if_pos h

theorem chooseRange_mid {target : Nat} (hl : 5000 < target) (h : target ≤ 25000) : chooseRange target = .mid := by
  rw [chooseRange, if_neg (by omega), if_pos h]

theorem chooseRange_high {target : Nat} (h : 25000 < target) : chooseRange target = .high := by
  rw [chooseRange, if_neg (by omega), if_neg (by omega)]

/-- The cells of a count carry the target, and one cell fewer does not. -/
theorem cellCount_bounds (r : Range) (target : Nat) : 1 ≤ cellCount r target ∧ target ≤ cellCount r target * r.fullScale ∧
    (2 ≤ cellCount r target → (cellCount r target - 1) * r.fullScale < target) := by
  obtain ⟨hfs, -⟩ := fullScale_bounds r
  obtain ⟨hlow, hhigh⟩ := ceilDiv_bounds target hfs
  unfold cellCount
  generalize ceilDiv target r.fullScale = n at *
  obtain rfl | hn := Nat.eq_zero_or_pos n
  · exact ⟨le_refl _, by omega, fun h => absurd h (by decide)⟩
  · rw [max_eq_right hn]
    refine ⟨hn, hlow, fun _ => ?_⟩
    have : (n - 1) * r.fullScale + r.fullScale = n * r.fullScale := by rw [← Nat.succ_mul, Nat.succ_eq_add_one, Nat.sub_add_cancel hn]
    omega

/-- A target that one cell carries takes one cell. -/
theorem cellCount_eq_one {r : Range} {target : Nat} (h : target ≤ r.fullScale) : cellCount r target = 1 := by
  obtain ⟨hone, -, hmany⟩ := cellCount_bounds r target
  by_contra hne
  have htwo : 2 ≤ cellCount r target := by omega
  have hcount : 1 * r.fullScale ≤ (cellCount r target - 1) * r.fullScale := Nat.mul_le_mul_right _ (by omega)
  have := hmany htwo
  omega

/-! ## The base code (R29) -/

/-- The base code is at least 2: one cell carries at most 100000 µA of full scale, and more cells are each more than half used. -/
theorem baseCode_bounds {r : Range} {target : Nat} (h : 50 ≤ target) :
    2 ≤ baseCodeOf r (cellCount r target) target ∧ baseCodeOf r (cellCount r target) target ≤ 4095 := by
  obtain ⟨hfs, hmax⟩ := fullScale_bounds r
  obtain ⟨hone, hcarry, hmany⟩ := cellCount_bounds r target
  have hscale : cellCount r target * r.fullScale ≤ 100000 ∨ cellCount r target * r.fullScale ≤ 2 * target := by
    obtain hn | hn : cellCount r target = 1 ∨ 2 ≤ cellCount r target := by omega
    · exact .inl (by rw [hn]; omega)
    · have hhalf : cellCount r target * r.fullScale ≤ 2 * (cellCount r target - 1) * r.fullScale :=
        Nat.mul_le_mul_right _ (by omega)
      rw [Nat.mul_assoc] at hhalf
      have := hmany hn
      exact .inr (by omega)
  unfold baseCodeOf roundDiv
  generalize cellCount r target * r.fullScale = scale at *
  have hpos : 0 < 2 * scale := by omega
  exact ⟨(Nat.le_div_iff_mul_le hpos).2 (by omega), Nat.lt_succ_iff.1 ((Nat.div_lt_iff_lt_mul hpos).2 (by omega))⟩

theorem baseCode_nearest (r : Range) (target : Nat) :
    let scale := cellCount r target * r.fullScale
    let code := baseCodeOf r (cellCount r target) target
    (2 * code - 1) * scale ≤ 2 * (target * 4095) ∧ 2 * (target * 4095) < (2 * code + 1) * scale := by
  intro scale code
  obtain ⟨hfs, -⟩ := fullScale_bounds r
  obtain ⟨hone, -, -⟩ := cellCount_bounds r target
  obtain ⟨hlow, hhigh⟩ := roundDiv_bounds (target * 4095) (Nat.mul_pos hone hfs)
  change 2 * scale * code ≤ 2 * (target * 4095) + scale at hlow
  change 2 * (target * 4095) + scale < 2 * scale * (code + 1) at hhigh
  rw [Nat.mul_add, Nat.mul_right_comm] at hhigh
  rw [Nat.mul_right_comm] at hlow
  rw [Nat.sub_mul, Nat.add_mul]
  omega

/-! ## The codes of a ramp (R71) -/

/-- The straight line of a ramp from `first` to `last` at step `k`, in 32nds of a code. -/
def rampLine (first last k : Nat) : Int := 32 * first + ((last : Int) - first) * k

/-- The line stays in the span of its two ends. -/
theorem rampLine_span {first last k : Nat} (hk : k ≤ 32) :
    32 * (min first last : Nat) ≤ rampLine first last k ∧ rampLine first last k ≤ 32 * (max first last : Nat) := by
  have hline : rampLine first last k = (first * (32 - k) + last * k : Nat) := by
    push_cast [rampLine, Nat.cast_sub hk]
    ring
  have hlow : min first last * (32 - k) + min first last * k ≤ first * (32 - k) + last * k :=
    Nat.add_le_add (Nat.mul_le_mul_right _ (min_le_left ..)) (Nat.mul_le_mul_right _ (min_le_right ..))
  have hhigh : first * (32 - k) + last * k ≤ max first last * (32 - k) + max first last * k :=
    Nat.add_le_add (Nat.mul_le_mul_right _ (le_max_left ..)) (Nat.mul_le_mul_right _ (le_max_right ..))
  rw [← Nat.mul_add, Nat.sub_add_cancel hk] at hlow hhigh
  rw [hline]
  omega

theorem rampCode_eq (first last k : Nat) : rampCode first last k = ((2 * rampLine first last k + 32) / 64).toNat := rfl

/-- The code is the nearest to the line, halves upward, and stays in its span. -/
theorem rampCode_bounds {first last k : Nat} (hk : k ≤ 32) :
    (-16 : Int) ≤ rampLine first last k - 32 * rampCode first last k ∧ rampLine first last k - 32 * rampCode first last k < 16 ∧
      min first last ≤ rampCode first last k ∧ rampCode first last k ≤ max first last := by
  obtain ⟨hlow, hhigh⟩ := rampLine_span (first := first) (last := last) hk
  rw [rampCode_eq]
  omega

/-- Settles O21: each number is a quotient rounded as its rule says, so it lies within the bounds of that rounding. -/
theorem codesAndChargesFollowTheArithmetic : Obligations.CodesAndChargesFollowTheArithmetic := by
  unfold Obligations.CodesAndChargesFollowTheArithmetic
  refine ⟨⟨rfl, rfl, rfl⟩, fun target hmin hmax => ⟨fun h => ?_, fun hl h => ?_, fun hl h => ?_, fun h => ?_⟩, fun r target h => ?_,
    fun base trim => ?_, fun target rail => ceilDiv_bounds (target * rail) (by decide), fun first last k hk => ?_⟩
  · exact ⟨chooseRange_low h, by rw [admissionCells, chooseRange_low h]; exact cellCount_eq_one h⟩
  · exact ⟨chooseRange_mid hl h, by rw [admissionCells, chooseRange_mid hl h]; exact cellCount_eq_one h⟩
  · exact ⟨chooseRange_high hl, by rw [admissionCells, chooseRange_high hl]; exact cellCount_eq_one h⟩
  · have hhigh : chooseRange target = .high := chooseRange_high (by omega)
    obtain ⟨hone, hcarry, hmany⟩ := cellCount_bounds .high target
    rw [admissionCells, hhigh]
    rw [show Range.high.fullScale = 100000 from rfl] at hcarry hmany
    exact ⟨rfl, by omega, hcarry, hmany (by omega)⟩
  · obtain ⟨hone, hcarry, hmany⟩ := cellCount_bounds r target
    obtain ⟨htwo, htop⟩ := baseCode_bounds (r := r) h
    exact ⟨hone, hcarry, hmany, htwo, htop, baseCode_nearest r target⟩
  · unfold leadCode
    omega
  · obtain ⟨hlow, hhigh, hmin, hmax⟩ := rampCode_bounds (first := first) (last := last) hk
    refine ⟨hlow, hhigh, hmin, hmax, ?_, ?_⟩ <;> rw [rampCode_eq, rampLine] <;> omega

end Sys2Proof.Machine
end

section
/-! PROOFS. The demand of a bank, and how STARTING follows the bank's state (R35 to R39, R69). -/

namespace Sys2Proof.Machine

open State

namespace State

section
variable (s : State)

/-- A bank-on notice handed to the Lease Engine (R37). -/
def handBankOn (b : Fin 4) : State :=
  { s with engine := { s.engine with bankOnNotices := s.engine.bankOnNotices ++ [b] } }

@[simp] theorem bank_handBankOn (b d : Fin 4) : (s.handBankOn b).bank d = s.bank d := rfl

@[simp] theorem bankOnNotices_handBankOn (b : Fin 4) :
    (s.handBankOn b).engine.bankOnNotices = s.engine.bankOnNotices ++ [b] := rfl

end

section
variable {s : State} {b : Fin 4}

theorem moveBank_eq (st : BankState) : s.moveBank b st = s.setBank b { s.bank b with state := st } := rfl

/-- With a demand a bank enters ON and hands the notice (R37). -/
theorem enterOn_of_demand (h : (s.bank b).driving + (s.bank b).claims ≠ 0) :
    s.enterOn b = (s.setBank b { s.bank b with state := .on }).handBankOn b := by
  rw [enterOn, demand, if_neg h]
  rfl

/-- Without a demand it passes on at once (R37, R38). -/
theorem enterOn_of_no_demand (h : (s.bank b).driving + (s.bank b).claims = 0) :
    s.enterOn b = s.setBank b { s.bank b with state := s.restState b } := by
  rw [enterOn, demand, if_pos h, moveBank_eq]

/-! ## A claim of the wake (R35, R36, R39) -/

theorem raiseClaim_off (hst : (s.bank b).state = .off) (hgood : (s.bank b).railGood = false) :
    s.raiseClaim b = s.setBank b { s.bank b with claims := (s.bank b).claims + 1, state := .waking 1600 } := by
  simp [raiseClaim, demandRisen, moveBank_eq, hst, hgood, msTicks, Config.wakeMs, Config.ticksPerMs]

theorem raiseClaim_waking {w : Nat} (hst : (s.bank b).state = .waking w) :
    s.raiseClaim b = s.setBank b { s.bank b with claims := (s.bank b).claims + 1 } := by
  simp [raiseClaim, demandRisen, hst]

/-- From OFF with rail-good high, and from LINGER, the bank enters ON in the same act (R37, R39). -/
theorem raiseClaim_to_on (h : ((s.bank b).state = .off ∧ (s.bank b).railGood = true) ∨ ∃ n u, (s.bank b).state = .linger n u) :
    s.raiseClaim b = (s.setBank b { s.bank b with claims := (s.bank b).claims + 1, state := .on }).handBankOn b := by
  have hon : (s.setBank b { s.bank b with claims := (s.bank b).claims + 1 }).enterOn b =
      (s.setBank b { s.bank b with claims := (s.bank b).claims + 1, state := .on }).handBankOn b := by
    rw [enterOn_of_demand] <;> simp
  rw [← hon]
  obtain ⟨hst, hgood⟩ | ⟨n, u, hst⟩ := h
  · simp [raiseClaim, demandRisen, hst, hgood]
  · simp [raiseClaim, demandRisen, hst]

/-- A bank in ON takes another driving lease without a move (R35). -/
theorem raiseDriving_on (hst : (s.bank b).state = .on) :
    s.raiseDriving b = s.setBank b { s.bank b with driving := (s.bank b).driving + 1 } := by
  simp [raiseDriving, demandRisen, hst]

/-! ## Entry to STARTING (R69) -/

variable {k : Fin 32} {l : Lease} {a : Allocation} (hl : s.lease? k = some l) (ha : l.alloc = some a)
include hl ha

theorem enterStarting_on (hst : (s.bank a.bank).state = .on) : s.enterStarting k =
    ((s.putLease k { l with state := .starting .ramp }).setBank a.bank
      { s.bank a.bank with driving := (s.bank a.bank).driving + 1 }).startRamp k l.target Allocation.targetCodes := by
  have hdrive : (s.putLease k { l with state := .starting .ramp }).raiseDriving a.bank = _ := raiseDriving_on hst
  have hramp : s.enterStarting k =
      ((s.putLease k { l with state := .starting .ramp }).raiseDriving a.bank).startTargetRamp k := by
    simp only [enterStarting, hl, ha, if_pos hst]
  rw [hramp, hdrive]
  exact startTargetRamp_eq (l := { l with state := .starting .ramp }) (by simp)

theorem enterStarting_wake (hst : (s.bank a.bank).state ≠ .on) :
    s.enterStarting k = (s.putLease k { l with state := .starting .wake }).raiseClaim a.bank := by
  simp only [enterStarting, hl, ha, if_neg hst]

end
end State

/-- Settles O28: a bank in ON ramps the lease, and every other eligible state takes its claim. -/
theorem startingFollowsTheBank : Obligations.StartingFollowsTheBank := by
  unfold Obligations.StartingFollowsTheBank
  intro s k l a hl ha e ramping waking
  refine ⟨fun hst => enterStarting_on hl ha hst, fun hst hgood => ?_, fun w hst => ?_, fun hst => ?_⟩
  · rw [enterStarting_wake hl ha (hst ▸ BankState.noConfusion)]
    exact raiseClaim_off hst hgood
  · rw [enterStarting_wake hl ha (hst ▸ BankState.noConfusion)]
    exact raiseClaim_waking hst
  · have hon : e.state ≠ .on := by obtain ⟨h, -⟩ | ⟨n, u, h⟩ := hst <;> rw [h] <;> simp
    rw [enterStarting_wake hl ha hon]
    exact raiseClaim_to_on hst

end Sys2Proof.Machine
end

section
/-! PROOFS. The act of admission: what it gives the lease, and what it leaves as it was (R24, R29, R31, R35 to R39, R55, R57, R58, R69, R71). -/

namespace Sys2Proof.Machine

open State

/-- At step 32 a ramp is at its end code (R71). -/
theorem rampCode_last (first last : Nat) : rampCode first last 32 = last := by
  rw [rampCode_eq, rampLine]
  omega

/-! ## The cells of a bank -/

@[simp] theorem mem_cellsOf {b : Fin 4} {c : Fin 24} : c ∈ cellsOf b ↔ bankOf c = b := by
  simp [cellsOf, allCells]

theorem bankOf_eq_iff {b : Fin 4} {c : Fin 24} : bankOf c = b ↔ c.val / 6 = b.val := Fin.ext_iff

theorem pairwise_cellsOf (b : Fin 4) : (cellsOf b).Pairwise (· < ·) := (List.pairwise_lt_finRange 24).filter _

theorem mem_freeIn {s : State} {b : Fin 4} {c : Fin 24} : c ∈ s.freeIn b ↔ bankOf c = b ∧ (s.cell c).state = .free := by
  simp [freeIn]

theorem pairwise_freeIn (s : State) (b : Fin 4) : (s.freeIn b).Pairwise (· < ·) := (pairwise_cellsOf b).filter _

namespace State

/-! ## What a start of a lease leaves alone -/

/-- From `g` to `t` nothing but the record of slot `k`, bank `b`, the codes and the bank-on notices differ. -/
structure StartFrame (k : Fin 32) (b : Fin 4) (g t : State) : Prop where
  cell : ∀ c, t.cell c = g.cell c
  range : ∀ c, (t.drive c).range = (g.drive c).range
  committed : ∀ d, t.committed d = g.committed d
  terminal : ∀ m, t.terminal m = g.terminal m
  slot : ∀ j, j ≠ k → t.slot j = g.slot j
  gen : (t.slot k).gen = (g.slot k).gen
  bank : ∀ d, d ≠ b → t.bank d = g.bank d
  lapseNotices : t.engine.lapseNotices = g.engine.lapseNotices
  results : t.engine.results = g.engine.results
  waitExpiryNotices : t.allocator.waitExpiryNotices = g.allocator.waitExpiryNotices
  waitList : t.allocator.waitList = g.allocator.waitList
  seatCtl : t.seatCtl = g.seatCtl
  meas : t.meas = g.meas
  pool : t.pool = g.pool
  selfTest : t.selfTest = g.selfTest
  port : t.port = g.port
  straps : t.straps = g.straps
  pending : t.pending = g.pending

section
variable {k : Fin 32} {b : Fin 4} {g t u : State}

theorem StartFrame.refl : StartFrame k b g g := by constructor <;> intros <;> rfl

theorem StartFrame.trans (h : StartFrame k b g t) (h' : StartFrame k b t u) : StartFrame k b g u where
  cell c := (h'.cell c).trans (h.cell c)
  range c := (h'.range c).trans (h.range c)
  committed d := (h'.committed d).trans (h.committed d)
  terminal m := (h'.terminal m).trans (h.terminal m)
  slot j hj := (h'.slot j hj).trans (h.slot j hj)
  gen := h'.gen.trans h.gen
  bank d hd := (h'.bank d hd).trans (h.bank d hd)
  lapseNotices := h'.lapseNotices.trans h.lapseNotices
  results := h'.results.trans h.results
  waitExpiryNotices := h'.waitExpiryNotices.trans h.waitExpiryNotices
  waitList := h'.waitList.trans h.waitList
  seatCtl := h'.seatCtl.trans h.seatCtl
  meas := h'.meas.trans h.meas
  pool := h'.pool.trans h.pool
  selfTest := h'.selfTest.trans h.selfTest
  port := h'.port.trans h.port
  straps := h'.straps.trans h.straps
  pending := h'.pending.trans h.pending

theorem startFrame_putLease (m : Lease) : StartFrame k b g (g.putLease k m) := by
  constructor
  case slot => exact fun j hj => g.slot_putLease_of_ne hj
  case gen => exact g.gen_putLease ..
  all_goals intros; rfl

theorem startFrame_setBank (e : Bank) : StartFrame k b g (g.setBank b e) := by
  constructor
  case bank => exact fun d hd => by rw [bank_setBank, if_neg hd.symm]
  all_goals intros; rfl

theorem startFrame_handBankOn (d : Fin 4) : StartFrame k b g (g.handBankOn d) := by constructor <;> intros <;> rfl

theorem startFrame_writeRamp (cells : List RampCell) (n : Nat) : StartFrame k b g (g.writeRamp cells n) := by
  constructor <;> intros <;> simp

theorem startFrame_startRamp {n : Nat} {ends : Allocation → List (Fin 24 × Nat)} : StartFrame k b g (g.startRamp k n ends) := by
  unfold startRamp
  split
  · split
    · simp only
      split
      · exact (startFrame_putLease _).trans (startFrame_writeRamp ..)
      · exact startFrame_putLease _
    · exact .refl
  · exact .refl

theorem startFrame_enterOn : StartFrame k b g (g.enterOn b) := by
  unfold enterOn
  split
  · exact startFrame_setBank _
  · exact (startFrame_setBank _).trans (startFrame_handBankOn b)

theorem startFrame_demandRisen : StartFrame k b g (g.demandRisen b) := by
  unfold demandRisen
  split
  · split
    · exact startFrame_enterOn
    · exact startFrame_setBank _
  · exact startFrame_enterOn
  all_goals exact .refl

theorem startFrame_enterStarting {l : Lease} {a : Allocation} (hl : g.lease? k = some l) (ha : l.alloc = some a) :
    StartFrame k a.bank g (g.enterStarting k) := by
  by_cases hon : (g.bank a.bank).state = .on
  · rw [enterStarting_on hl ha hon]
    exact ((startFrame_putLease _).trans (startFrame_setBank _)).trans startFrame_startRamp
  · rw [enterStarting_wake hl ha hon]
    exact ((startFrame_putLease _).trans (startFrame_setBank _)).trans startFrame_demandRisen

end

/-! ## What admission gives before the lease enters STARTING (R57) -/

section
variable (s : State) (k : Fin 32) (l : Lease) (b : Fin 4)

/-- The cells of an admission: the lowest FREE ones of the bank (R55). -/
def admissionCellsOf : List (Fin 24) := (s.freeIn b).take (admissionCells l.target)

/-- The allocation of an admission (R57). -/
def admissionAlloc : Allocation :=
  { bank := b, cells := (s.admissionCellsOf l b).map fun c => ⟨c, false⟩
    baseCode := baseCodeOf (chooseRange l.target) (admissionCells l.target) l.target, trim := 0
    charge := chargeOf l.target (s.bank b).rail }

/-- The record with the range and the allocation of an admission. -/
def admitted : Lease := { l with range := some (chooseRange l.target), alloc := some (s.admissionAlloc l b) }

/-- The state with the cells, the charge, the terminal and the record given. -/
def withAdmission : State :=
  (((s.allotCells (s.handleAt k) l.terminal (chooseRange l.target) (s.admissionCellsOf l b)).setCommitted b
    (s.committed b + chargeOf l.target (s.bank b).rail)).setTerminal l.terminal
      { s.terminal l.terminal with holder := some (s.handleAt k) }).putLease k (s.admitted l b)

theorem admitTo_eq : s.admitTo k l b = (s.withAdmission k l b).enterStarting k := by
  simp only [admitTo, committed_allotCells, terminal_setCommitted, terminal_allotCells]
  rfl

/-! ### The tables with an admission given -/

@[simp] theorem cell_withAdmission (c : Fin 24) : (s.withAdmission k l b).cell c =
    if c ∈ s.admissionCellsOf l b then { s.cell c with state := .allotted (s.handleAt k), route := some l.terminal }
    else s.cell c := by
  simp [withAdmission]

@[simp] theorem drive_withAdmission (c : Fin 24) : (s.withAdmission k l b).drive c =
    if c ∈ s.admissionCellsOf l b then { s.drive c with range := chooseRange l.target } else s.drive c := by
  simp [withAdmission]

theorem code_withAdmission (c : Fin 24) : ((s.withAdmission k l b).drive c).code = (s.drive c).code := by
  rw [drive_withAdmission]
  split <;> rfl

@[simp] theorem committed_withAdmission (d : Fin 4) : (s.withAdmission k l b).committed d =
    if d = b then s.committed b + chargeOf l.target (s.bank b).rail else s.committed d := by
  simp [withAdmission, eq_comm]

@[simp] theorem terminal_withAdmission (m : Fin 16) : (s.withAdmission k l b).terminal m =
    if m = l.terminal then { s.terminal m with holder := some (s.handleAt k) } else s.terminal m := by
  by_cases hm : m = l.terminal
  · subst hm
    simp [withAdmission]
  · simp [withAdmission, hm, Ne.symm hm]

@[simp] theorem lease_withAdmission : (s.withAdmission k l b).lease? k = some (s.admitted l b) := by simp [withAdmission]

theorem slot_withAdmission {j : Fin 32} (hj : j ≠ k) : (s.withAdmission k l b).slot j = s.slot j := by
  rw [withAdmission, slot_putLease_of_ne _ hj]
  simp

theorem gen_withAdmission (j : Fin 32) : ((s.withAdmission k l b).slot j).gen = (s.slot j).gen := by
  simp [withAdmission]

@[simp] theorem bank_withAdmission (d : Fin 4) : (s.withAdmission k l b).bank d = s.bank d := by simp [withAdmission]

@[simp] theorem bankOnNotices_withAdmission :
    (s.withAdmission k l b).engine.bankOnNotices = s.engine.bankOnNotices := by simp [withAdmission]

/-- The blocks no gift of an admission touches. -/
theorem blocks_withAdmission :
    (s.withAdmission k l b).engine.lapseNotices = s.engine.lapseNotices ∧
    (s.withAdmission k l b).engine.results = s.engine.results ∧
    (s.withAdmission k l b).allocator.waitExpiryNotices = s.allocator.waitExpiryNotices ∧
    (s.withAdmission k l b).allocator.waitList = s.allocator.waitList ∧
    (s.withAdmission k l b).seatCtl = s.seatCtl ∧ (s.withAdmission k l b).meas = s.meas ∧
    (s.withAdmission k l b).pool = s.pool ∧ (s.withAdmission k l b).selfTest = s.selfTest ∧
    (s.withAdmission k l b).port = s.port ∧ (s.withAdmission k l b).straps = s.straps ∧
    (s.withAdmission k l b).pending = s.pending := by
  simp [withAdmission]

/-! ### The start of the admitted lease -/

theorem startFrame_admitTo : StartFrame k b (s.withAdmission k l b) (s.admitTo k l b) := by
  rw [admitTo_eq]
  exact startFrame_enterStarting (lease_withAdmission ..) rfl

/-- The start ramp of an admission: from the codes the cells carry to the target (R69, R71). -/
def startCells : List RampCell :=
  match s.admissionCellsOf l b with
  | [] => []
  | lead :: rest =>
    ⟨lead, (s.drive lead).code, leadCode (baseCodeOf (chooseRange l.target) (admissionCells l.target) l.target) 0⟩ ::
      rest.map fun c => ⟨c, (s.drive c).code, baseCodeOf (chooseRange l.target) (admissionCells l.target) l.target⟩

/-- The record of a lease admitted on a bank in ON, at a step of its start ramp. -/
def rampingLease (step : Nat) : Lease :=
  { s.admitted l b with
    state := .starting .ramp, rampCount := l.rampCount + 1
    ramp := some ⟨(s.withAdmission k l b).presentLevel (s.admitted l b), l.target, l.rampTime.getD 0, step, 0, s.startCells l b⟩ }

/-- The device when a bank in ON has taken the admitted lease, its start ramp at this step. -/
def withStart (step : Nat) : State :=
  ((s.withAdmission k l b).setBank b { s.bank b with driving := (s.bank b).driving + 1 }).putLease k (s.rampingLease k l b step)

end

section
variable {s : State} {k : Fin 32} {l : Lease} {b : Fin 4}

theorem rampCells_admitted : rampCells (s.withAdmission k l b) (s.admissionAlloc l b).targetCodes = s.startCells l b := by
  unfold startCells
  cases hcs : s.admissionCellsOf l b with
  | nil => simp [rampCells, Allocation.targetCodes, admissionAlloc, hcs]
  | cons lead rest =>
    simp [rampCells, Allocation.targetCodes, admissionAlloc, hcs, -drive_withAdmission, code_withAdmission, Function.comp_def]

/-- The start ramp replaces the record the lease entered STARTING–RAMP with. -/
theorem withRamp_start {g : State} {m : Lease} (e : Bank) (step : Nat) (ends : List (Fin 24 × Nat)) :
    (((g.putLease k { m with state := .starting .ramp }).setBank b e).putLease k
      (withRamp ((g.putLease k { m with state := .starting .ramp }).setBank b e) { m with state := .starting .ramp } m.target step
        ends)) = (g.setBank b e).putLease k (withRamp g { m with state := .starting .ramp } m.target step ends) :=
  putLease_putLease (g.setBank b e) k { m with state := .starting .ramp } _

/-- On a bank in ON the lease enters STARTING–RAMP (R69); with a ramp time of 0 the cells are written at once (R73). -/
theorem admitTo_on (hon : (s.bank b).state = .on) :
    s.admitTo k l b = if l.rampTime.getD 0 = 0 then (s.withStart k l b 32).writeRamp (s.startCells l b) 32
      else s.withStart k l b 0 := by
  have hcells := rampCells_admitted (s := s) (k := k) (l := l) (b := b)
  have hlease (step : Nat) : withRamp (s.withAdmission k l b) { s.admitted l b with state := .starting .ramp }
      (s.admitted l b).target step (s.admissionAlloc l b).targetCodes = s.rampingLease k l b step := by
    rw [withRamp, hcells]
    rfl
  have hon' : ((s.withAdmission k l b).bank (s.admissionAlloc l b).bank).state = .on := by rw [bank_withAdmission]; exact hon
  rw [admitTo_eq, enterStarting_on (lease_withAdmission ..) rfl hon']
  split
  next ht =>
    rw [startRamp_atOnce (l := { s.admitted l b with state := .starting .ramp }) (by simp) rfl ht, withRamp_start, hlease,
      withStart, ← hcells, bank_withAdmission]
    rfl
  next ht =>
    rw [startRamp_timed (l := { s.admitted l b with state := .starting .ramp }) (by simp) rfl ht, withRamp_start, hlease, withStart,
      bank_withAdmission]
    rfl

/-- On any other bank it enters STARTING–WAKE with its claim (R35, R69). -/
theorem admitTo_wake (hon : (s.bank b).state ≠ .on) : s.admitTo k l b =
    ((s.withAdmission k l b).putLease k { s.admitted l b with state := .starting .wake }).raiseClaim b := by
  rw [admitTo_eq]
  exact enterStarting_wake (lease_withAdmission ..) rfl (by rw [bank_withAdmission]; exact hon)

theorem cellArray_raiseClaim (g : State) : (g.raiseClaim b).cellArray = g.cellArray := by
  unfold raiseClaim demandRisen enterOn
  repeat' split
  all_goals rfl

/-! ### The codes after admission (R28, R71, R73) -/

theorem cells_startCells : (s.startCells l b).map (·.cell) = s.admissionCellsOf l b := by
  unfold startCells
  cases s.admissionCellsOf l b with
  | nil => rfl
  | cons lead rest => simp [Function.comp_def]

theorem nodup_admissionCellsOf : (s.admissionCellsOf l b).Nodup :=
  ((pairwise_freeIn s b).imp (fun h => ne_of_lt h)).sublist (List.take_sublist ..)

theorem mem_admissionCellsOf {c : Fin 24} (h : c ∈ s.admissionCellsOf l b) : bankOf c = b :=
  (mem_freeIn.1 (List.mem_of_mem_take h)).1

theorem code_withStart (step : Nat) (c : Fin 24) : ((s.withStart k l b step).drive c).code = (s.drive c).code :=
  code_withAdmission s k l b c

/-- A cell of the admission may drive once its lease ramps on a bank in ON (R28). -/
theorem mayDrive_withStart {step : Nat} {c : Fin 24} (hon : (s.bank b).state = .on) (hh : s.handleAt k ≠ Config.noLease)
    (hc : c ∈ s.admissionCellsOf l b) : (s.withStart k l b step).mayDrive c = true := by
  have hcell : ((s.withStart k l b step).cell c).state = .allotted (s.handleAt k) := by
    simp [withStart, hc]
  have hresolve : (s.withStart k l b step).resolve (s.handleAt k) = some (k, s.rampingLease k l b step) := by
    refine Machine.resolve_eq_some.2 ⟨hh, ?_, by simp [withStart]⟩
    rw [withStart, handleAt_putLease, handleAt, handleAt]
    exact congrArg (handleOf k) (gen_withAdmission s k l b k).symm
  rw [mayDrive_eq_of_allotted hcell, hresolve, mem_admissionCellsOf hc]
  simp [withStart, rampingLease, LeaseState.driving, hon]

/-- With a ramp time of 0 every cell of the admission carries its end code at once (R73). -/
theorem code_admitTo_atOnce (hon : (s.bank b).state = .on) (ht : l.rampTime.getD 0 = 0) (hh : s.handleAt k ≠ Config.noLease)
    {f : RampCell} (hf : f ∈ s.startCells l b) : ((s.admitTo k l b).drive f.cell).code = f.stop := by
  have hmem : f.cell ∈ s.admissionCellsOf l b := cells_startCells (s := s) ▸ List.mem_map_of_mem hf
  have hunique : ∀ g ∈ s.startCells l b, g.cell = f.cell → g = f :=
    fun g hg hgf => List.inj_on_of_nodup_map (cells_startCells (s := s) ▸ nodup_admissionCellsOf) hg hf hgf
  rw [admitTo_on hon, if_pos ht, code_writeRamp _ hf hunique, if_pos (mayDrive_withStart hon hh hmem), rampCode_last]

/-- Otherwise admission leaves every code as it is (R24). -/
theorem code_admitTo (h : (s.bank b).state ≠ .on ∨ l.rampTime.getD 0 ≠ 0) (c : Fin 24) :
    ((s.admitTo k l b).drive c).code = (s.drive c).code := by
  by_cases hon : (s.bank b).state = .on
  · rw [admitTo_on hon, if_neg (h.resolve_left (not_not.2 hon)), code_withStart]
  · rw [admitTo_wake hon, drive, cellArray_raiseClaim]
    exact code_withAdmission s k l b c

theorem code_admitTo_of_not_mem {c : Fin 24} (hc : c ∉ s.admissionCellsOf l b) :
    ((s.admitTo k l b).drive c).code = (s.drive c).code := by
  by_cases h : (s.bank b).state ≠ .on ∨ l.rampTime.getD 0 ≠ 0
  · exact code_admitTo h c
  · push Not at h
    obtain ⟨hon, ht⟩ := h
    rw [admitTo_on hon, if_pos ht, drive_writeRamp_of_not_mem, code_withStart]
    rwa [cells_startCells]

/-! ### The record after admission (R58) -/

/-- On a bank in ON, the record at the step its ramp begins with. -/
theorem lease_admitTo_on (hon : (s.bank b).state = .on) :
    (s.admitTo k l b).lease? k = some (s.rampingLease k l b (if l.rampTime.getD 0 = 0 then 32 else 0)) := by
  rw [admitTo_on hon]
  split <;> simp [withStart]

theorem lease_admitTo_wake (hon : (s.bank b).state ≠ .on) :
    (s.admitTo k l b).lease? k = some { s.admitted l b with state := .starting .wake } := by
  rw [admitTo_wake hon, lease_of_records (records_raiseClaim ..)]
  simp

/-- Cells at code 0 carry no current. -/
theorem presentLevel_withAdmission (h : ∀ c ∈ s.admissionCellsOf l b, (s.drive c).code = 0) :
    (s.withAdmission k l b).presentLevel (s.admitted l b) = 0 := by
  have hcodes : (s.admissionAlloc l b).cells.map (fun e => ((s.withAdmission k l b).drive e.cell).code) =
      (s.admissionCellsOf l b).map fun _ => 0 := by
    rw [admissionAlloc, List.map_map]
    exact List.map_congr_left fun c hc => (code_withAdmission ..).trans (h c hc)
  rw [presentLevel_eq (a := s.admissionAlloc l b) rfl rfl, hcodes]
  simp [roundDiv]

/-! ### The bank after admission (R35 to R39) -/

theorem bank_admitTo_on (hon : (s.bank b).state = .on) :
    (s.admitTo k l b).bank b = { s.bank b with driving := (s.bank b).driving + 1 } ∧
      (s.admitTo k l b).engine.bankOnNotices = s.engine.bankOnNotices := by
  rw [admitTo_on hon]
  split <;> simp [withStart]

theorem bank_admitTo_waking {w : Nat} (hst : (s.bank b).state = .waking w) :
    (s.admitTo k l b).bank b = { s.bank b with claims := (s.bank b).claims + 1 } ∧
      (s.admitTo k l b).engine.bankOnNotices = s.engine.bankOnNotices := by
  rw [admitTo_wake (by rw [hst]; simp), raiseClaim_waking (w := w) (by simp [hst])]
  simp

theorem bank_admitTo_off (hst : (s.bank b).state = .off) (hgood : (s.bank b).railGood = false) :
    (s.admitTo k l b).bank b = { s.bank b with claims := (s.bank b).claims + 1, state := .waking 1600 } ∧
      (s.admitTo k l b).engine.bankOnNotices = s.engine.bankOnNotices := by
  rw [admitTo_wake (by rw [hst]; simp), raiseClaim_off (by simp [hst]) (by simp [hgood])]
  simp

theorem bank_admitTo_to_on (h : ((s.bank b).state = .off ∧ (s.bank b).railGood = true) ∨ ∃ n u, (s.bank b).state = .linger n u) :
    (s.admitTo k l b).bank b = { s.bank b with claims := (s.bank b).claims + 1, state := .on } ∧
      (s.admitTo k l b).engine.bankOnNotices = s.engine.bankOnNotices ++ [b] := by
  have hon : (s.bank b).state ≠ .on := by obtain ⟨h, -⟩ | ⟨n, u, h⟩ := h <;> rw [h] <;> simp
  rw [admitTo_wake hon, raiseClaim_to_on (by simpa using h)]
  simp

end
end State

/-- The bank an attempt chooses serves the lease. -/
theorem serves_of_attempt {s : State} {l : Lease} {b : Fin 4} (h : s.attempt l = .ok b) : Serves s l b := by
  have hfree : (s.terminal l.terminal).holder = none := by
    by_contra hne
    rw [attempt_terminalTaken hne] at h
    cases h
  have hquota : s.allottedCount l.owner + admissionCells l.target ≤ (s.seat l.owner).cellQuota := by
    by_contra hlt
    rw [attempt_cellQuota hfree (Nat.lt_of_not_le hlt)] at h
    cases h
  exact ((attempt_eq_ok hfree hquota).1 h).1.1

/-- Settles O26: what admission gives is `withAdmission`, the start leaves all but the record, the bank, the codes and the notice alone, and
the four states of a bank say the rest. -/
theorem admissionGivesCellsChargeAndTerminal : Obligations.AdmissionGivesCellsChargeAndTerminal := by
  unfold Obligations.AdmissionGivesCellsChargeAndTerminal
  intro s k l b hok
  obtain ⟨-, -, hcount⟩ := serves_of_attempt hok
  have hframe := startFrame_admitTo s k l b
  obtain ⟨hlapse, hresults, hexpiry, hwait, hseats, hmeas, hpool, htest, hport, hstraps, hpending⟩ := blocks_withAdmission s k l b
  refine ⟨admitTo_eq s k l b, List.length_take_of_le hcount, fun c => by rw [mem_freeIn, bankOf_eq_iff], pairwise_freeIn s b,
    fun c => (hframe.cell c).trans (cell_withAdmission s k l b c), fun c => ?range,
    fun hon ht hh f hf => code_admitTo_atOnce hon ht hh hf, code_admitTo, fun c hc => code_admitTo_of_not_mem hc,
    fun d => (hframe.committed d).trans (committed_withAdmission s k l b d),
    fun m => ?terminal, fun j hj => (hframe.slot j hj).trans (slot_withAdmission s k l b hj),
    hframe.gen.trans (gen_withAdmission s k l b k), ?record, fun d hd => (hframe.bank d hd).trans (bank_withAdmission s k l b d),
    bank_admitTo_on, fun w hst => bank_admitTo_waking hst, fun n u hst => bank_admitTo_to_on (.inr ⟨n, u, hst⟩), bank_admitTo_off,
    fun hst hgood => bank_admitTo_to_on (.inl ⟨hst, hgood⟩), hframe.lapseNotices.trans hlapse, hframe.results.trans hresults,
    hframe.waitExpiryNotices.trans hexpiry, hframe.waitList.trans hwait, hframe.seatCtl.trans hseats, hframe.meas.trans hmeas,
    hframe.pool.trans hpool, hframe.selfTest.trans htest, hframe.port.trans hport, hframe.straps.trans hstraps,
    hframe.pending.trans hpending⟩
  case range =>
    refine (hframe.range c).trans ?_
    rw [drive_withAdmission, apply_ite CellDrive.range]
    rfl
  case terminal =>
    refine (hframe.terminal m).trans ((terminal_withAdmission s k l b m).trans ?_)
    rfl
  case record =>
    by_cases hon : (s.bank b).state = .on
    · exact ⟨_, lease_admitTo_on hon, rfl, rfl, rfl, rfl, rfl, rfl, rfl, rfl, rfl, rfl, rfl, rfl, rfl, rfl, rfl, rfl,
        fun _ => ⟨rfl, rfl, rfl, presentLevel_withAdmission⟩, fun h => absurd hon h⟩
    · exact ⟨_, lease_admitTo_wake hon, rfl, rfl, rfl, rfl, rfl, rfl, rfl, rfl, rfl, rfl, rfl, rfl, rfl, rfl, rfl, rfl,
        fun h => absurd h hon, fun _ => ⟨rfl, rfl, rfl⟩⟩

end Sys2Proof.Machine
end

section
/-! PROOFS. Ramp steps and completions, and the verify queue (R28, R63, R71, R74, R75, R81, R82, R97). -/

namespace Sys2Proof.Machine

open State

namespace State

section
variable (s : State)

/-! ## Codes and cells written over a list -/

/-- A ramp writes codes alone. -/
theorem writeRamp_cellArray_only (cells : List RampCell) (n : Nat) :
    s.writeRamp cells n = { s with cellArray := (s.writeRamp cells n).cellArray } := by
  induction cells generalizing s with
  | nil => rfl
  | cons c cells ih => exact (ih _).trans rfl

/-- Cells that are freed change in the cell table and in their codes alone. -/
theorem freeCells_cells_only (cs : List (Fin 24)) : s.freeCells cs =
    { s with
      allocator := { s.allocator with cells := (s.freeCells cs).allocator.cells }
      cellArray := (s.freeCells cs).cellArray } := by
  induction cs generalizing s with
  | nil => rfl
  | cons c cs ih => exact (ih _).trans rfl

end

section
variable {s : State} {k : Fin 32} {l : Lease} {r : Ramp} {a : Allocation}

/-! ## A step of a ramp (R71) -/

theorem rampStep_eq (hl : s.lease? k = some l) (hr : l.ramp = some r) (hstep : r.step < 32) : s.rampStep k =
    (s.putLease k { l with ramp := some { r with step := r.step + 1, elapsed := (r.step + 1) * r.time } }).writeRamp
      r.cells (r.step + 1) := by
  have hsteps : r.step < Config.rampSteps := hstep
  simp only [rampStep, hl, hr, if_pos hsteps]

/-- A row with no step left to take has no effect (log 2). -/
theorem rampStep_none (h : ∀ l r, s.lease? k = some l → l.ramp = some r → 32 ≤ r.step) : s.rampStep k = s := by
  cases hl : s.lease? k with
  | none => simp only [rampStep, hl]
  | some l =>
    cases hr : l.ramp with
    | none => simp only [rampStep, hl, hr]
    | some r =>
      have hsteps : ¬r.step < Config.rampSteps := Nat.not_lt.2 (h l r hl hr)
      simp only [rampStep, hl, hr, if_neg hsteps]

/-! ## A completion (R74, R75, R81, R82) -/

/-- What a completion leaves before the lease moves on: end codes, leaving cells freed and off the list, no ramp (R74). -/
def rampEnded (s : State) (k : Fin 32) (l : Lease) (r : Ramp) (a : Allocation) (st : LeaseState) : State :=
  ((s.writeRamp r.cells 32).freeCells a.leavingCells).putLease k
    { l with ramp := none, alloc := some a.withoutLeaving, state := st }

theorem leavingCells_withoutLeaving (a : Allocation) : a.withoutLeaving.leavingCells = [] := by
  simp [Allocation.leavingCells, Allocation.withoutLeaving]

section
variable (hl : s.lease? k = some l) (hr : l.ramp = some r) (ha : l.alloc = some a)
include hl hr ha

theorem endRamp_eq : s.endRamp k = s.rampEnded k l r a l.state := by
  simp only [endRamp, hl, hr, ha]
  rfl

theorem completeRamp_eq : s.completeRamp k =
    match l.state with
    | .starting .ramp => ((((s.rampEnded k l r a l.state).putLease k { l with
        ramp := none, alloc := some a.withoutLeaving, state := .verifying }).joinVerify (s.handleAt k)).reconsider).rescanIf
          (decide (a.leavingCells ≠ []))
    | .active _ _ => (s.rampEnded k l r a l.state).reconsider.rescanIf (decide (a.leavingCells ≠ []))
    | .rampdown d => (((s.rampEnded k l r a l.state).takeDestination k d).postLease k d.event).rescanIf
        (decide (a.leavingCells ≠ []) || (s.rampEnded k l r a l.state).givesBack k d)
    | .waiting _ _ | .starting .wake | .verifying | .suspended _ | .closed _ => s.rampEnded k l r a l.state := by
  have hleaving : (!a.leavingCells.isEmpty) = decide (a.leavingCells ≠ []) := by cases a.leavingCells <;> rfl
  have hrecord : (s.rampEnded k l r a l.state).lease? k =
      some { l with ramp := none, alloc := some a.withoutLeaving } := by simp [rampEnded]
  simp only [completeRamp, hl, hr, ha, endRamp_eq hl hr ha, hrecord, Option.isNone_some, Bool.false_eq_true, if_false,
    Option.any_some, hleaving] <;> rfl

theorem completeRamp_starting (hst : l.state = .starting .ramp) : s.completeRamp k =
    (((s.rampEnded k l r a .verifying).joinVerify (s.handleAt k)).reconsider).rescanIf (decide (a.leavingCells ≠ [])) := by
  rw [completeRamp_eq hl hr ha, hst]
  simp only [rampEnded, putLease_putLease]

theorem completeRamp_active {st : Bool} {u : Nat} (hst : l.state = .active st u) : s.completeRamp k =
    (s.rampEnded k l r a l.state).reconsider.rescanIf (decide (a.leavingCells ≠ [])) := by
  rw [completeRamp_eq hl hr ha, hst]

theorem completeRamp_suspended {why : SuspendReason} (hst : l.state = .rampdown (.suspended why)) : s.completeRamp k =
    (((s.rampEnded k l r a l.state).suspendHolding k why).postLease k .suspended).rescanIf (decide (a.leavingCells ≠ [])) := by
  have hgives : (s.rampEnded k l r a (.rampdown (.suspended why))).givesBack k (.suspended why) = false := by
    simp [givesBack, rampEnded, leavingCells_withoutLeaving]
  rw [completeRamp_eq hl hr ha, hst]
  simp only [hgives, Bool.or_false]
  rfl

theorem completeRamp_closed {why : EndReason} (hst : l.state = .rampdown (.closed why)) : s.completeRamp k =
    (((s.rampEnded k l r a l.state).closeHolding k why).postLease k .closed).rescan := by
  rw [completeRamp_eq hl hr ha, hst]
  simp only [givesBack_closed, Bool.or_true]
  rfl

end

theorem completeRamp_none (hl : s.lease? k = none) : s.completeRamp k = s := by simp only [completeRamp, hl]

theorem completeRamp_no_ramp (hl : s.lease? k = some l) (hr : l.ramp = none) : s.completeRamp k = s := by
  simp [completeRamp, hl, hr]

/-! ## The verify queue (R97) -/

theorem joinVerify_of_mem {h : Handle} (hq : h ∈ s.meas.verifyQueue) : s.joinVerify h = s := by
  simp [joinVerify, hq]

theorem joinVerify_of_not_mem {h : Handle} (hq : h ∉ s.meas.verifyQueue) : s.joinVerify h =
    { s with meas := { s.meas with
      verifyQueue := s.meas.verifyQueue.filter (fun g => decide (g.toNat % 32 ≠ h.toNat % 32)) ++ [h] } } := by
  have hslot (g : Handle) : (handleSlot g != handleSlot h) = decide (g.toNat % 32 ≠ h.toNat % 32) := by
    simp [bne, handleSlot, BEq.beq]
  simp [joinVerify, hq, hslot]

end
end State

/-- Settles O31: a step and a completion are each one act on one lease, and what they write cell by cell is said of `writeRamp` and
`freeCells`. -/
theorem rampCompletionMovesLeaseOn : Obligations.RampCompletionMovesLeaseOn := by
  unfold Obligations.RampCompletionMovesLeaseOn
  refine ⟨fun s cells n => ⟨s.writeRamp_cellArray_only cells n, s.range_writeRamp cells n, fun e he hu => s.code_writeRamp he hu,
      fun c hc => s.drive_writeRamp_of_not_mem hc⟩,
    fun s cs => ⟨s.freeCells_cells_only cs, fun c => ⟨s.cell_freeCells cs c, s.drive_freeCells cs c⟩⟩,
    fun s k => ⟨fun l r hl hr hstep => ?step, fun h => ?idle⟩,
    fun s k => ⟨fun l r a hl hr ha => ?completion, fun hl => ?empty, fun l hl hr => ?steady⟩,
    fun s h => ⟨fun hq => joinVerify_of_mem hq, fun hq => joinVerify_of_not_mem hq⟩⟩
  case step =>
    let stepped := s.putLease k { l with ramp := some { r with step := r.step + 1, elapsed := (r.step + 1) * r.time } }
    refine ⟨_, rfl, congrArg driveOutputs (rampStep_eq hl hr hstep), fun e he hu => ?_, fun c hc => ?_, fun c => ?_⟩
    all_goals rw [drive_driveOutputs, rampStep_eq hl hr hstep]
    · have hdrive : stepped.mayDrive e.cell = s.mayDrive e.cell := mayDrive_putLease hl (by rfl) e.cell
      exact (code_writeRamp stepped he hu).trans (by rw [hdrive])
    · exact drive_writeRamp_of_not_mem stepped hc
    · exact range_writeRamp stepped _ _ c
  case idle => exact congrArg (fun t => Host.Outcome.next (driveOutputs t)) (rampStep_none h)
  case completion =>
    refine ⟨fun hst => ?_, fun st u hst => ?_, fun why hst => ?_, fun why hst => ?_⟩
    all_goals refine congrArg (fun t => Host.Outcome.next (driveOutputs t)) ?_
    · exact completeRamp_starting hl hr ha hst
    · exact completeRamp_active hl hr ha hst
    · exact completeRamp_suspended hl hr ha hst
    · exact completeRamp_closed hl hr ha hst
  case empty => exact congrArg (fun t => Host.Outcome.next (driveOutputs t)) (completeRamp_none hl)
  case steady => exact congrArg (fun t => Host.Outcome.next (driveOutputs t)) (completeRamp_no_ramp hl hr)

end Sys2Proof.Machine
end

section
/-! PROOFS. Whole seconds and expiries: durations, waits, keepalives and lingers (R39, R64, R65, R77, R79, R133, R135). -/

namespace Sys2Proof.Machine

open State

/-- An event answers with what its act leaves, its outputs driven: two acts that leave the same answer alike. -/
theorem next_driveOutputs {t u : State} (h : t = u) :
    (Host.Outcome.next t.driveOutputs : Host.Outcome State Fault Refusal) = .next u.driveOutputs := by rw [h]

namespace State

/-! ## Nothing counts in HOLD -/

section
variable {s : State} (hh : s.held = true)
include hh

theorem durationExpiry_of_held (k : Fin 32) : s.durationExpiry k = s := if_pos hh

theorem durationSecond_of_held (k : Fin 32) : s.durationSecond k = s := if_pos hh

theorem waitTimerExpiry_of_held (k : Fin 32) : s.waitTimerExpiry k = s := if_pos hh

theorem waitSecond_of_held (k : Fin 32) : s.waitSecond k = s := if_pos hh

theorem keepaliveExpiry_of_held (x : Seat) : s.keepaliveExpiry x = s := if_pos hh

theorem keepaliveSecond_of_held (x : Seat) : s.keepaliveSecond x = s := if_pos hh

theorem lingerExpiry_of_held (b : Fin 4) : s.lingerExpiry b = s := if_pos hh

theorem lingerSecond_of_held (b : Fin 4) : s.lingerSecond b = s := if_pos hh

end

section
variable {s : State} {k : Fin 32} {l : Lease}

/-! ## Durations (R77, R79) -/

/-- The durations that run: those of an ACTIVE lease. -/
def durationRuns (l : Lease) : Bool :=
  match l.state with
  | .active _ _ => l.duration.isSome
  | _ => false

theorem durationRuns_eq_false : durationRuns l = false ↔ l.duration = none ∨ ∀ st u, l.state ≠ .active st u := by
  unfold durationRuns
  cases l.state <;> simp

theorem durationExpiry_idle (h : ∀ l, s.lease? k = some l → durationRuns l = false) : s.durationExpiry k = s := by
  unfold durationExpiry
  split
  · rfl
  split
  · next l hl =>
    have hidle := h l hl
    split
    · next hst hd => simp [durationRuns, hst, hd] at hidle
    · rfl
  · rfl

theorem durationSecond_idle (h : ∀ l, s.lease? k = some l → durationRuns l = false) : s.durationSecond k = s := by
  unfold durationSecond
  split
  · rfl
  split
  · next l hl =>
    have hidle := h l hl
    split
    · next hst hd => simp [durationRuns, hst, hd] at hidle
    · rfl
  · rfl

section
variable {st : Bool} {u : Nat} {d : Duration} (hh : s.held = false) (hl : s.lease? k = some l)
  (hst : l.state = .active st u) (hd : l.duration = some d)
include hh hl hst hd

theorem durationExpiry_running : s.durationExpiry k =
    if d.remaining ≤ 1 then
      (s.putLease k { l with duration := some { d with remaining := 0 } }).enterRampdown k (.closed .expired)
    else s := by
  simp only [durationExpiry, hh, Bool.false_eq_true, if_false, hl, hst, hd]

theorem durationSecond_running : s.durationSecond k =
    if d.remaining ≤ 1 then s.durationExpiry k
    else s.putLease k { l with state := .active st 0, duration := some { d with remaining := d.remaining - 1 } } := by
  simp only [durationSecond, hh, Bool.false_eq_true, if_false, hl, hst, hd]

end

/-! ## Waits (R64, R65) -/

/-- The waits that run: those of a WAITING lease with seconds left. -/
def waitRuns (l : Lease) : Bool :=
  match l.state with
  | .waiting n _ => n != 0
  | _ => false

theorem waitRuns_eq_false : waitRuns l = false ↔ (∃ u, l.state = .waiting 0 u) ∨ ∀ n u, l.state ≠ .waiting n u := by
  unfold waitRuns
  cases l.state <;> simp

theorem waitTimerExpiry_idle (h : ∀ l, s.lease? k = some l → waitRuns l = false) : s.waitTimerExpiry k = s := by
  unfold waitTimerExpiry
  split
  · rfl
  split
  · next l hl =>
    have hidle := h l hl
    split
    · next hst => simp [waitRuns, hst] at hidle
    · rfl
  · rfl

theorem waitSecond_idle (h : ∀ l, s.lease? k = some l → waitRuns l = false) : s.waitSecond k = s := by
  unfold waitSecond
  split
  · rfl
  split
  · next l hl =>
    have hidle := h l hl
    split
    · next hst => simp [waitRuns, hst] at hidle
    · next hst => simp [waitRuns, hst] at hidle
    · rfl
  · rfl

/-- A wait that has run out hands its notice (R65). -/
def handWaitExpiry (s : State) (k : Fin 32) (l : Lease) : State :=
  let t := s.putLease k { l with state := .waiting 0 0 }
  { t with allocator := { t.allocator with waitExpiryNotices := t.allocator.waitExpiryNotices ++ [s.handleAt k] } }

section
variable {n u : Nat} (hh : s.held = false) (hl : s.lease? k = some l)
include hh hl

theorem waitTimerExpiry_last (hst : l.state = .waiting 1 u) : s.waitTimerExpiry k = s.handWaitExpiry k l := by
  simp only [waitTimerExpiry, hh, Bool.false_eq_true, if_false, hl, hst]
  rfl

theorem waitSecond_last (hst : l.state = .waiting 1 u) : s.waitSecond k = s.handWaitExpiry k l := by
  rw [← waitTimerExpiry_last hh hl hst]
  simp only [waitSecond, hh, Bool.false_eq_true, if_false, hl, hst]

theorem waitTimerExpiry_early (hst : l.state = .waiting (n + 2) u) : s.waitTimerExpiry k = s := by
  simp only [waitTimerExpiry, hh, Bool.false_eq_true, if_false, hl, hst]

theorem waitSecond_early (hst : l.state = .waiting (n + 2) u) :
    s.waitSecond k = s.putLease k { l with state := .waiting (n + 1) 0 } := by
  simp only [waitSecond, hh, Bool.false_eq_true, if_false, hl, hst]

end
end

/-! ## Keepalives (R133, R135) -/

section
variable {s : State} {x : Seat}

theorem keepaliveExpiry_idle (h : ∀ n u, (s.seat x).keepalive ≠ .armed n u) : s.keepaliveExpiry x = s := by
  unfold keepaliveExpiry
  split
  · rfl
  split
  · next hk => exact absurd hk (h _ _)
  · rfl

theorem keepaliveSecond_idle (h : ∀ n u, (s.seat x).keepalive ≠ .armed n u) : s.keepaliveSecond x = s := by
  unfold keepaliveSecond
  split
  · rfl
  split
  · next hk => exact absurd hk (h _ _)
  · next hk => exact absurd hk (h _ _)
  · rfl

section
variable {n u : Nat} (hh : s.held = false)
include hh

theorem keepaliveExpiry_early (hk : (s.seat x).keepalive = .armed (n + 2) u) : s.keepaliveExpiry x = s := by
  have hmore : ¬n + 2 ≤ 1 := by omega
  simp only [keepaliveExpiry, hh, Bool.false_eq_true, if_false, hk, hmore]

theorem keepaliveSecond_early (hk : (s.seat x).keepalive = .armed (n + 2) u) :
    s.keepaliveSecond x = s.setSeat x { s.seat x with keepalive := .armed (n + 1) 0 } := by
  simp only [keepaliveSecond, hh, Bool.false_eq_true, if_false, hk]

theorem keepaliveExpiry_last {policy : LapsePolicy} (hk : (s.seat x).keepalive = .armed n u) (hn : n ≤ 1)
    (he : (s.seat x).enabled = true) (hp : (s.seat x).policy = some policy) : s.keepaliveExpiry x =
    { s.setSeat x { s.seat x with
        keepalive := .lapsed, latched := (s.seat x).latched ||| 0x0010#16, acked := (s.seat x).acked &&& ~~~0x0010#16 } with
      engine := { s.engine with lapseNotices := s.engine.lapseNotices ++ [(⟨x, policy⟩ : LapseNotice)] } } := by
  simp only [keepaliveExpiry, hh, Bool.false_eq_true, if_false, hk, hn, if_true, raiseLevel, seat_setSeat, he, hp,
    setSeat_setSeat, Option.getD_some]
  rfl

theorem keepaliveSecond_last (hk : (s.seat x).keepalive = .armed n u) (hn : n ≤ 1) :
    s.keepaliveSecond x = s.keepaliveExpiry x := by
  match n, hn with
  | 0, _ | 1, _ => simp only [keepaliveSecond, hh, Bool.false_eq_true, if_false, hk]

end
end

/-! ## Lingers (R39) -/

section
variable {s : State} {b : Fin 4}

theorem lingerExpiry_idle (h : ∀ n u, (s.bank b).state ≠ .linger n u) : s.lingerExpiry b = s := by
  unfold lingerExpiry
  split
  · rfl
  split
  · next hb => exact absurd hb (h _ _)
  · rfl

theorem lingerSecond_idle (h : ∀ n u, (s.bank b).state ≠ .linger n u) : s.lingerSecond b = s := by
  unfold lingerSecond
  split
  · rfl
  split
  · next hb => exact absurd hb (h _ _)
  · next hb => exact absurd hb (h _ _)
  · rfl

section
variable {n u : Nat} (hh : s.held = false)
include hh

theorem lingerExpiry_early (hb : (s.bank b).state = .linger (n + 2) u) : s.lingerExpiry b = s := by
  have hmore : ¬n + 2 ≤ 1 := by omega
  simp only [lingerExpiry, hh, Bool.false_eq_true, if_false, hb, hmore]

theorem lingerSecond_early (hb : (s.bank b).state = .linger (n + 2) u) :
    s.lingerSecond b = s.setBank b { s.bank b with state := .linger (n + 1) 0 } := by
  simp only [lingerSecond, hh, Bool.false_eq_true, if_false, hb, moveBank_eq]

theorem lingerExpiry_last (hb : (s.bank b).state = .linger n u) (hn : n ≤ 1) :
    s.lingerExpiry b = s.setBank b { s.bank b with state := .off } := by
  simp only [lingerExpiry, hh, Bool.false_eq_true, if_false, hb, hn, if_true, moveBank_eq]

theorem lingerSecond_last (hb : (s.bank b).state = .linger n u) (hn : n ≤ 1) : s.lingerSecond b = s.lingerExpiry b := by
  match n, hn with
  | 0, _ | 1, _ => simp only [lingerSecond, hh, Bool.false_eq_true, if_false, hb]

end
end
end State

/-- Settles O55: each timer's two rows are read by the state of what they count on, and the last second's row is its expiry's. -/
theorem secondsCountAndExpiriesAct : Obligations.SecondsCountAndExpiriesAct := by
  unfold Obligations.SecondsCountAndExpiriesAct
  refine fun s => ⟨fun hh k x b => ?held, fun k hl => ?empty, fun hh k l hl => ⟨fun st u d hst hd => ?duration,
      fun h => ?noDuration, fun n u hst => ?wait, fun u hst => ?waitLast, fun h => ?noWait⟩,
    fun hh x => ⟨fun n u hk => ?keepalive, fun n u policy hk hn he hp => ?keepaliveLast, fun hk => ?noKeepalive⟩,
    fun hh b => ⟨fun n u hb => ?linger, fun n u hb hn => ?lingerLast, fun hb => ?noLinger⟩⟩
  case held =>
    simp only [List.forall_mem_cons, List.not_mem_nil, false_implies, implies_true, and_true]
    exact ⟨next_driveOutputs (durationSecond_of_held hh k), next_driveOutputs (durationExpiry_of_held hh k),
      next_driveOutputs (waitSecond_of_held hh k), next_driveOutputs (waitTimerExpiry_of_held hh k),
      next_driveOutputs (keepaliveSecond_of_held hh x), next_driveOutputs (keepaliveExpiry_of_held hh x),
      next_driveOutputs (lingerSecond_of_held hh b), next_driveOutputs (lingerExpiry_of_held hh b)⟩
  case empty =>
    have hnone {p : Lease → Prop} (l : Lease) (h : s.settle.lease? k = some l) : p l := by simp [hl] at h
    simp only [List.forall_mem_cons, List.not_mem_nil, false_implies, implies_true, and_true]
    exact ⟨next_driveOutputs (durationSecond_idle hnone), next_driveOutputs (durationExpiry_idle hnone),
      next_driveOutputs (waitSecond_idle hnone), next_driveOutputs (waitTimerExpiry_idle hnone)⟩
  case duration =>
    have hexpiry := durationExpiry_running hh hl hst hd
    have hsecond := durationSecond_running hh hl hst hd
    refine ⟨fun hmore => ?_, fun hlast => ?_⟩
    · have hmore : ¬d.remaining ≤ 1 := by omega
      exact ⟨next_driveOutputs (hexpiry.trans (if_neg hmore)), next_driveOutputs (hsecond.trans (if_neg hmore))⟩
    · have hexpired := hexpiry.trans (if_pos hlast)
      simp only [List.forall_mem_cons, List.not_mem_nil, false_implies, implies_true, and_true]
      exact ⟨next_driveOutputs ((hsecond.trans (if_pos hlast)).trans hexpired), next_driveOutputs hexpired⟩
  case noDuration =>
    have hidle (m : Lease) (hm : s.settle.lease? k = some m) : durationRuns m = false := by
      obtain rfl : l = m := Option.some.inj (hl.symm.trans hm)
      exact durationRuns_eq_false.2 h
    exact ⟨next_driveOutputs (durationSecond_idle hidle), next_driveOutputs (durationExpiry_idle hidle)⟩
  case wait =>
    exact ⟨next_driveOutputs (waitTimerExpiry_early hh hl hst), next_driveOutputs (waitSecond_early hh hl hst)⟩
  case waitLast =>
    simp only [List.forall_mem_cons, List.not_mem_nil, false_implies, implies_true, and_true]
    exact ⟨next_driveOutputs (waitSecond_last hh hl hst), next_driveOutputs (waitTimerExpiry_last hh hl hst)⟩
  case noWait =>
    have hidle (m : Lease) (hm : s.settle.lease? k = some m) : waitRuns m = false := by
      obtain rfl : l = m := Option.some.inj (hl.symm.trans hm)
      exact waitRuns_eq_false.2 h
    exact ⟨next_driveOutputs (waitSecond_idle hidle), next_driveOutputs (waitTimerExpiry_idle hidle)⟩
  case keepalive => exact ⟨next_driveOutputs (keepaliveExpiry_early hh hk), next_driveOutputs (keepaliveSecond_early hh hk)⟩
  case keepaliveLast =>
    have hlast := keepaliveExpiry_last hh hk hn he hp
    simp only [List.forall_mem_cons, List.not_mem_nil, false_implies, implies_true, and_true]
    exact ⟨next_driveOutputs ((keepaliveSecond_last hh hk hn).trans hlast), next_driveOutputs hlast⟩
  case noKeepalive => exact ⟨next_driveOutputs (keepaliveSecond_idle hk), next_driveOutputs (keepaliveExpiry_idle hk)⟩
  case linger => exact ⟨next_driveOutputs (lingerExpiry_early hh hb), next_driveOutputs (lingerSecond_early hh hb)⟩
  case lingerLast =>
    have hlast := lingerExpiry_last hh hb hn
    simp only [List.forall_mem_cons, List.not_mem_nil, false_implies, implies_true, and_true]
    exact ⟨next_driveOutputs ((lingerSecond_last hh hb hn).trans hlast), next_driveOutputs hlast⟩
  case noLinger => exact ⟨next_driveOutputs (lingerSecond_idle hb), next_driveOutputs (lingerExpiry_idle hb)⟩

end Sys2Proof.Machine
end

section
/-! PROOFS. BANK SET and BANK CLEAR: the parameters, the order of the checks, and what an accepted one makes of its bank (R42, R43). -/

namespace Sys2Proof.Machine

open State

/-! ## The parameters (R42 check 1, log 33) -/

theorem rail?_eq_some {v n : Nat} : rail? v = some n ↔ 3000 ≤ v ∧ v ≤ 28000 ∧ v % 100 = 0 ∧ n = v := by
  unfold rail?
  split
  · next hstep => simp only [inRange?_eq_some, hstep, true_and, eq_comm (a := v)]
  · next hstep => simp [hstep]

theorem optional?_rail?_eq_some {present : Bool} {v : Nat} {o : Option Nat} : optional? present (rail? v) = some o ↔
    (present = true → 3000 ≤ v ∧ v ≤ 28000 ∧ v % 100 = 0) ∧ o = if present = true then some v else none := by
  rw [optional?_eq_some]
  cases present
  · simp
  · simp [rail?_eq_some, and_assoc]

/-- What R42 asks of the parameters of a BANK SET (log 33). -/
def GoodBankSet (p : BankSetParams) : Prop :=
  p.bank.toNat ≤ 3 ∧ 1 ≤ p.presence.toNat ∧ p.presence.toNat < 16 ∧
    (p.presence.getLsbD 0 = true → 3000 ≤ p.rail.toNat ∧ p.rail.toNat ≤ 28000 ∧ p.rail.toNat % 100 = 0) ∧
    (p.presence.getLsbD 1 = true → p.budget.toNat ≤ 20000) ∧ (p.presence.getLsbD 2 = true → p.linger.toNat ≤ 60) ∧
    (p.presence.getLsbD 3 = true → p.enable.toNat ≤ 1)

/-- The parameters of a BANK SET of a bank, as the device reads them (11.5). -/
def bankSetAsRead (p : BankSetParams) (bank : Fin 4) : BankSetRequest :=
  { bank
    rail := if p.presence.getLsbD 0 = true then some p.rail.toNat else none
    budget := if p.presence.getLsbD 1 = true then some p.budget.toNat else none
    linger := if p.presence.getLsbD 2 = true then some p.linger.toNat else none
    enable := if p.presence.getLsbD 3 = true then some (decide (p.enable.toNat = 1)) else none }

/-- A BANK SET passes check 1 of R42 exactly when its parameters are good, and is then read as it stands. -/
theorem bankSetRequest?_eq_some {p : BankSetParams} {q : BankSetRequest} :
    bankSetRequest? p = some q ↔ GoodBankSet p ∧ q.bank.val = p.bank.toNat ∧ q = bankSetAsRead p q.bank := by
  have hzero : p.presence = 0#8 ↔ p.presence.toNat = 0 := by rw [← BitVec.toNat_inj]; rfl
  unfold bankSetRequest?
  simp only [Option.bind_eq_bind, Option.bind_eq_some_iff, index?_eq_some, require_eq_some, optional?_inRange?_eq_some,
    optional?_rail?_eq_some, optional?_choice?_eq_some, bit, Option.pure_def, Option.some.injEq, Bool.and_eq_true, bne_iff_ne,
    ne_eq, decide_eq_true_iff, hzero]
  constructor
  · rintro ⟨bank, hbank, _, ⟨hpresent, hbits⟩, _, ⟨hrail, rfl⟩, _, ⟨hbudget, rfl⟩, _, ⟨hlinger, rfl⟩, _, ⟨henable, rfl⟩, rfl⟩
    refine ⟨⟨by omega, by omega, hbits, hrail, fun h => (hbudget h).2, fun h => (hlinger h).2, henable⟩, hbank, ?_⟩
    simp only [bankSetAsRead, Bool.if_false_right, Bool.and_true]
  · rintro ⟨⟨hlow, hpresent, hbits, hrail, hbudget, hlinger, henable⟩, hbank, hq⟩
    refine ⟨q.bank, hbank, (), ⟨by omega, hbits⟩, _, ⟨hrail, rfl⟩, _, ⟨fun h => ⟨Nat.zero_le _, hbudget h⟩, rfl⟩, _,
      ⟨fun h => ⟨Nat.zero_le _, hlinger h⟩, rfl⟩, _, ⟨henable, rfl⟩, Eq.trans ?_ hq.symm⟩
    simp only [bankSetAsRead, Bool.if_false_right, Bool.and_true]

theorem bankSetRequest?_isSome_iff {p : BankSetParams} : (bankSetRequest? p).isSome = true ↔ GoodBankSet p := by
  rw [Option.isSome_iff_exists]
  refine ⟨fun ⟨q, hq⟩ => (bankSetRequest?_eq_some.1 hq).1, fun hp => ?_⟩
  have hbank : p.bank.toNat < 4 := Nat.lt_succ_of_le hp.1
  exact ⟨bankSetAsRead p ⟨p.bank.toNat, hbank⟩, bankSetRequest?_eq_some.2 ⟨hp, rfl, rfl⟩⟩

/-! ## Checks 2 to 5 (R42) -/

theorem isSome_holder?_iff {st : CellState} : st.holder?.isSome = true ↔ ∃ h, st = .allotted h := by
  cases st <;> simp [CellState.holder?]

theorem anyAllotted_iff {s : State} {b : Fin 4} :
    s.anyAllotted b = true ↔ ∃ c h, bankOf c = b ∧ (s.cell c).state = .allotted h := by
  simp only [anyAllotted, List.any_eq_true, mem_cellsOf, isSome_holder?_iff, exists_and_left]

/-- Some cell of a bank is ALLOTTED or TESTING (R42). -/
def BankInUse (s : State) (b : Fin 4) : Prop :=
  ∃ c, bankOf c = b ∧ ((∃ h, (s.cell c).state = .allotted h) ∨ (s.cell c).state = .testing)

theorem anyInUse_iff {s : State} {b : Fin 4} : s.anyInUse b = true ↔ BankInUse s b := by
  simp only [anyInUse, BankInUse, Bool.or_eq_true, anyAllotted_iff, List.any_eq_true, mem_cellsOf, beq_iff_eq, and_or_left,
    exists_or, exists_and_left]

/-- Checks 3 to 5: a new rail or a disable of a bank in use, or a budget below what is committed. -/
def BankSetBusy (s : State) (q : BankSetRequest) : Prop :=
  (∃ v, q.rail = some v ∧ v ≠ (s.bank q.bank).rail ∧ BankInUse s q.bank) ∨
    (∃ v, q.budget = some v ∧ v < s.committed q.bank) ∨ (q.enable = some false ∧ BankInUse s q.bank)

section
variable {s : State} {q : BankSetRequest}

theorem bankSetRefusal_strap (h : (s.bank q.bank).strapEnabled = false) : s.bankSetRefusal q = some .bankUnavailable := by
  simp [bankSetRefusal, h]

theorem bankSetRefusal_strapped (h : (s.bank q.bank).strapEnabled = true) :
    (BankSetBusy s q → s.bankSetRefusal q = some .bankBusy) ∧ (¬BankSetBusy s q → s.bankSetRefusal q = none) := by
  have hbusy : BankSetBusy s q ↔ (q.rail.any (· != (s.bank q.bank).rail) && s.anyInUse q.bank) = true ∨
      (q.budget.any (· < s.committed q.bank)) = true ∨ (q.enable == some false && s.anyInUse q.bank) = true := by
    simp only [BankSetBusy, Bool.and_eq_true, anyInUse_iff, Option.any_eq_true, bne_iff_ne, decide_eq_true_iff, beq_iff_eq,
      exists_and_right, ← and_assoc]
  rw [hbusy]
  simp only [bankSetRefusal, h, Bool.not_true, Bool.false_eq_true, if_false]
  refine ⟨fun hb => ?_, fun hb => ?_⟩
  · split
    · rfl
    split
    · rfl
    next hrail hbudget => rw [if_pos ((hb.resolve_left hrail).resolve_left hbudget)]
  · rw [not_or, not_or] at hb
    obtain ⟨hrail, hbudget, hdisable⟩ := hb
    rw [if_neg hrail, if_neg hbudget, if_neg hdisable]

/-! ## What an accepted one makes of its bank (R42) -/

/-- The fields of a BANK SET applied, the bank in a given state. -/
def setFields (s : State) (q : BankSetRequest) (st : BankState) : State :=
  let e := s.bank q.bank
  s.setBank q.bank { e with
    rail := q.rail.getD e.rail, budget := q.budget.getD e.budget, lingerTime := q.linger.getD e.lingerTime, state := st }

theorem applyBankSet_eq : s.applyBankSet q =
    (if q.enable = some false then (setFields s q (q.state (s.bank q.bank).state)).endBankFault
      else setFields s q (q.state (s.bank q.bank).state)).rescanIf
      (decide ((s.bank q.bank).budget < q.budget.getD (s.bank q.bank).budget) ||
        (q.enable == some true && (s.bank q.bank).state == .disabled)) := by
  rw [← any_lt_eq]
  rfl

theorem applyBankSet_disabling (h : q.enable = some false) : s.applyBankSet q =
    ((setFields s q .disabled).endBankFault).rescanIf
      (decide ((s.bank q.bank).budget < q.budget.getD (s.bank q.bank).budget)) := by
  simp [applyBankSet_eq, BankSetRequest.state, h]

theorem applyBankSet_enabling (h : q.enable = some true) (he : (s.bank q.bank).state = .disabled) :
    s.applyBankSet q = (setFields s q .off).rescan := by
  simp [applyBankSet_eq, BankSetRequest.state, h, he, rescanIf_true]

theorem applyBankSet_state_kept (h : q.enable = none ∨ (q.enable = some true ∧ (s.bank q.bank).state ≠ .disabled)) :
    s.applyBankSet q = (setFields s q (s.bank q.bank).state).rescanIf
      (decide ((s.bank q.bank).budget < q.budget.getD (s.bank q.bank).budget)) := by
  obtain h | ⟨h, he⟩ := h
  · simp [applyBankSet_eq, BankSetRequest.state, h]
  · have hnot : ((s.bank q.bank).state == .disabled) = false := beq_eq_false_iff_ne.2 he
    simp [applyBankSet_eq, BankSetRequest.state, h, he, hnot]

end

/-! ## BANK_FAULT ends with the last FAULTED bank (R160) -/

section
variable {s : State}

theorem endBankFault_kept (h : (∃ b, (s.bank b).state = .faulted) ∨ (s.seat .s).acked &&& 0x0040#16 = 0#16) :
    s.endBankFault = s := by
  unfold endBankFault
  split
  · rfl
  · next hf =>
    have hacked : ((s.seat .s).acked.has .bankFault) = false := by
      rw [has_eq_decide]
      exact decide_eq_false fun hne => hne (h.resolve_left fun hb => hf (anyFaulted_iff.2 hb))
    simp [endLevel, hacked]

theorem endBankFault_ended (hb : ∀ b, (s.bank b).state ≠ .faulted) (ha : (s.seat .s).acked &&& 0x0040#16 ≠ 0#16) :
    s.endBankFault = s.setSeat .s { s.seat .s with
      latched := (s.seat .s).latched &&& ~~~0x0040#16, acked := (s.seat .s).acked &&& ~~~0x0040#16 } := by
  have hf : ¬s.anyFaulted = true := fun hf => (anyFaulted_iff.1 hf).elim hb
  have hacked : ((s.seat .s).acked.has .bankFault) = true := (has_eq_decide _ _).trans (decide_eq_true ha)
  rw [endBankFault, if_neg hf, endLevel, if_pos hacked]
  rfl

end

/-- Settles O47: a BANK SET is read by its presence bits and judged check by check, and a BANK CLEAR asks only for FAULTED. -/
theorem bankSetAndBankClear : Obligations.BankSetAndBankClear := by
  unfold Obligations.BankSetAndBankClear
  refine ⟨fun p => ⟨bankSetRequest?_isSome_iff, fun q hq => ?read⟩, fun x p s ha => ?set, fun x bank s ha => ?clear,
    fun s => ⟨endBankFault_kept, endBankFault_ended⟩⟩
  case read =>
    obtain ⟨-, hbank, hread⟩ := bankSetRequest?_eq_some.1 hq
    generalize q.bank = b at hbank hread
    subst hread
    exact ⟨hbank, rfl, rfl, rfl, rfl⟩
  case set =>
    intro s1 i refused
    have answer {r : Reply} (h : bankSetBody p s1 = r) : exec i s = .next (r.state.respond i x r.status r.payload) :=
      request_reply rfl ha h
    refine ⟨fun hp => answer (r := refuse s1 .badParam) (by simp only [bankSetBody, hp]), fun q hp => ?_⟩
    intro e inUse busy
    have refuses {st : Status} (h : s1.bankSetRefusal q = some st) : refused st :=
      answer (r := refuse s1 st) (by simp only [bankSetBody, hp, h])
    refine ⟨fun h => refuses (bankSetRefusal_strap h), fun h hb => refuses ((bankSetRefusal_strapped h).1 hb), fun h hb => ?_⟩
    have accepts {t : State} (ht : s1.applyBankSet q = t) : exec i s = .next (t.respond i x .ok []) :=
      answer (r := accept t) (by simp only [bankSetBody, hp, (bankSetRefusal_strapped h).2 hb, ht])
    exact ⟨fun he => accepts (applyBankSet_disabling he), fun he hst => accepts (applyBankSet_enabling he hst),
      fun he => accepts (applyBankSet_state_kept he)⟩
  case clear =>
    intro s1 i
    have answer {r : Reply} (h : bankClearBody bank s1 = r) : exec i s = .next (r.state.respond i x r.status r.payload) :=
      request_reply rfl ha h
    refine ⟨fun hb => answer (r := refuse s1 .badParam) (by simp only [bankClearBody, index?_eq_none.2 hb]), fun b hb => ?_⟩
    have hread : index? 4 bank.toNat = some b := index?_eq_some.2 hb.symm
    exact ⟨fun hst => answer (r := refuse s1 .wrongState) (by simp only [bankClearBody, hread, hst, if_false]),
      fun hst => answer (r := accept (State.rescan _)) (by simp only [bankClearBody, hread, hst, if_true])⟩

end Sys2Proof.Machine
end

section
/-! PROOFS. CELL OUT, CELL IN and TERMINAL SET: the order of their checks, and the one entry each writes (R25, R26, R45 to R47). -/

namespace Sys2Proof.Machine

open State

/-! ## CELL OUT and CELL IN (R25, R26) -/

section
variable {s : State} {cell : Byte}

/-- Both requests check the cell number first. -/
theorem cell_bodies_badParam (h : 24 ≤ cell.toNat) :
    cellOutBody cell s = refuse s .badParam ∧ cellInBody cell s = refuse s .badParam := by
  simp only [cellOutBody, cellInBody, index?_eq_none.2 h, and_self]

section
variable {c : Fin 24} (hc : cell.toNat = c.val)
include hc

/-- Both requests check the strap of the cell's bank next. -/
theorem cell_bodies_unstrapped (h : ¬(s.bank (bankOf c)).strapEnabled = true) :
    cellOutBody cell s = refuse s .bankUnavailable ∧ cellInBody cell s = refuse s .bankUnavailable := by
  have hstrap : (s.bank (bankOf c)).strapEnabled = false := by simpa using h
  simp only [cellOutBody, cellInBody, index?_eq_some.2 hc.symm, hstrap, Bool.not_false, if_true, and_self]

variable (h : (s.bank (bankOf c)).strapEnabled = true)
include h

theorem cellOutBody_strapped : cellOutBody cell s =
    if (s.cell c).state = .free then accept (s.setCell c { s.cell c with state := .outOfService .supervisor })
    else refuse s .wrongState := by
  simp only [cellOutBody, index?_eq_some.2 hc.symm, h, Bool.not_true, Bool.false_eq_true, if_false]

theorem cellInBody_outOfService {w : OutCause} (hst : (s.cell c).state = .outOfService w) :
    cellInBody cell s = accept (s.setCell c { s.cell c with state := .free }).rescan := by
  simp only [cellInBody, index?_eq_some.2 hc.symm, h, Bool.not_true, Bool.false_eq_true, if_false, hst]

theorem cellInBody_inService (hst : ∀ w, (s.cell c).state ≠ .outOfService w) :
    cellInBody cell s = refuse s .wrongState := by
  simp only [cellInBody, index?_eq_some.2 hc.symm, h, Bool.not_true, Bool.false_eq_true, if_false]
  cases hs : (s.cell c).state with
  | outOfService w => exact absurd hs (hst w)
  | free | allotted | testing => rfl

end
end

/-! ## TERMINAL SET (R47) -/

/-- A two-valued field is refused from 2 on (11.5). -/
theorem choice?_eq_none {α : Type} {zero one : α} {v : Byte} : choice? zero one v = none ↔ 2 ≤ v.toNat := by
  rw [Option.eq_none_iff_forall_ne_some]
  simp only [ne_eq, choice?_eq_some]
  refine ⟨fun h => ?_, fun h a => ?_⟩
  · have hzero : v.toNat ≠ 0 := fun hv => h zero (.inl ⟨hv, rfl⟩)
    have hone : v.toNat ≠ 1 := fun hv => h one (.inr ⟨hv, rfl⟩)
    omega
  · rintro (⟨hv, -⟩ | ⟨hv, -⟩) <;> omega

theorem readTerminalSet_eq_none {terminal mode : Byte} :
    readTerminalSet terminal mode = none ↔ 16 ≤ terminal.toNat ∨ 2 ≤ mode.toNat := by
  rw [← index?_eq_none (n := 16), ← choice?_eq_none (zero := IdleMode.discharge) (one := .float)]
  unfold readTerminalSet
  cases index? 16 terminal.toNat <;> cases choice? IdleMode.discharge .float mode <;> simp

theorem readTerminalSet_eq_some {terminal mode : Byte} {m : Fin 16} {v : IdleMode} (hm : terminal.toNat = m.val)
    (hv : mode.toNat = (match v with | .discharge => 0 | .float => 1)) : readTerminalSet terminal mode = some (m, v) := by
  have hmode : choice? IdleMode.discharge .float mode = some v := by
    rw [choice?_eq_some]
    cases v with
    | discharge => exact .inl ⟨hv, rfl⟩
    | float => exact .inr ⟨hv, rfl⟩
  simp only [readTerminalSet, index?_eq_some.2 hm.symm, hmode, Option.bind_eq_bind, Option.bind_some, Option.pure_def]

theorem terminalSetBody_eq {s : State} {terminal mode : Byte} {m : Fin 16} {v : IdleMode}
    (h : readTerminalSet terminal mode = some (m, v)) : terminalSetBody terminal mode s =
      accept (s.setTerminal m { s.terminal m with
        requested := v, idle := if (s.terminal m).holder = none then v else (s.terminal m).idle }) := by
  simp only [terminalSetBody, h, Option.isNone_iff_eq_none]

/-- Settles O48: each body is read check by check. -/
theorem cellOutCellInTerminalSet : Obligations.CellOutCellInTerminalSet := by
  unfold Obligations.CellOutCellInTerminalSet
  refine ⟨fun x cell s i hi ha => ?cells, fun x terminal mode s ha => ?terminal⟩
  case cells =>
    intro s1
    have answer (r : Reply) (hout : i = .cellOut x cell → cellOutBody cell s1 = r)
        (hin : i = .cellIn x cell → cellInBody cell s1 = r) : exec i s = .next (r.state.respond i x r.status r.payload) := by
      obtain rfl | rfl := hi
      · exact request_reply rfl ha (hout rfl)
      · exact request_reply rfl ha (hin rfl)
    refine ⟨fun h => answer (refuse s1 .badParam) (fun _ => (cell_bodies_badParam h).1) fun _ => (cell_bodies_badParam h).2,
      fun c hc => ?_⟩
    intro e strapped
    refine ⟨fun h => answer (refuse s1 .bankUnavailable) (fun _ => (cell_bodies_unstrapped hc h).1)
        fun _ => (cell_bodies_unstrapped hc h).2,
      fun h hout => ?_, fun h hin => ?_⟩
    · subst hout
      have hbody := cellOutBody_strapped hc h
      exact ⟨fun hfree => request_reply rfl ha (hbody.trans (if_pos hfree)),
        fun hother => request_reply rfl ha (hbody.trans (if_neg hother))⟩
    · subst hin
      exact ⟨fun w hw => request_reply rfl ha (cellInBody_outOfService hc h hw),
        fun hw => request_reply rfl ha (cellInBody_inService hc h hw)⟩
  case terminal =>
    intro s1 i
    have answer {r : Reply} (h : terminalSetBody terminal mode s1 = r) :
        exec i s = .next (r.state.respond i x r.status r.payload) := request_reply rfl ha h
    refine ⟨fun h => answer (r := refuse s1 .badParam) (by simp only [terminalSetBody, readTerminalSet_eq_none.2 h]),
      fun m v hm hv => ?_⟩
    have hbody : terminalSetBody terminal mode s1 = _ := terminalSetBody_eq (readTerminalSet_eq_some hm hv)
    exact ⟨fun hfree => answer (r := accept (s1.setTerminal m _)) (by rw [hbody, if_pos hfree]),
      fun hheld => answer (r := accept (s1.setTerminal m _)) (by rw [hbody, if_neg hheld])⟩

end Sys2Proof.Machine
end

section
/-! PROOFS. The Self-Test Unit: the steps of a test, how they are judged, and how a test ends (R139 to R146). -/

namespace Sys2Proof.Machine

open State

namespace State

/-! ## The acts of the unit (R143 to R146) -/

section
variable (s : State)

/-- A step starts with the range and the code of its check, the code written if the cell may drive (R143). -/
theorem startTestStep_eq (t : TestRecord) (c : Fin 24) (r : Range) (chk : Check) :
    let u : State := { s with selfTest := some { t with current := some ⟨c, r, chk, decide (chk ≠ .leak), 64⟩ } }
    s.startTestStep t c r chk = u.setDrive c { code := if chk = .gain ∧ s.mayDrive c = true then 2048 else 0, range := r } := by
  intro u
  have hmay : (u.writeRange c r).mayDrive c = s.mayDrive c := rfl
  have hcode : (if s.mayDrive c = true then if chk = .gain then 2048 else 0 else 0) =
      if chk = .gain ∧ s.mayDrive c = true then 2048 else 0 := by
    cases s.mayDrive c <;> simp
  calc s.startTestStep t c r chk = (u.writeRange c r).writeCode c (if chk = .gain then 2048 else 0) := rfl
    _ = u.setDrive c { code := if chk = .gain ∧ s.mayDrive c = true then 2048 else 0, range := r } := by
      rw [writeCode, hmay, hcode, writeRange, drive_setDrive, if_pos rfl]
      simp only [setDrive, Vector.set_set]

/-- A test ends with its bank at rest, TEST_DONE and one rescan (R144, R145). -/
theorem finishTest_eq (b : Fin 4) :
    let idle : State := { s with selfTest := none }
    s.finishTest b = ((idle.setBank b { s.bank b with
      state := if (s.bank b).lingerTime = 0 then .off else .linger (s.bank b).lingerTime 0 }).postEdge .s .testDone).rescan :=
  rfl

theorem freeTesting_cons (c : Fin 24) (cs : List (Fin 24)) : s.freeTesting (c :: cs) =
    (if (s.cell c).state = .testing then s.setCell c { s.cell c with state := .free } else s).freeTesting cs := rfl

/-- The cells of a list that are TESTING are freed, and nothing else is written (R145). -/
theorem freeTesting_cells_only (cs : List (Fin 24)) : s.freeTesting cs =
    { s with allocator := { s.allocator with cells := (s.freeTesting cs).allocator.cells } } := by
  induction cs generalizing s with
  | nil => rfl
  | cons c cs ih =>
    rw [freeTesting_cons]
    split
    · exact (ih _).trans rfl
    · exact ih s

theorem cellArray_freeTesting (cs : List (Fin 24)) : (s.freeTesting cs).cellArray = s.cellArray := by
  rw [freeTesting_cells_only]

theorem cell_freeTesting (cs : List (Fin 24)) (c : Fin 24) : (s.freeTesting cs).cell c =
    if c ∈ cs ∧ (s.cell c).state = .testing then { s.cell c with state := .free } else s.cell c := by
  induction cs generalizing s with
  | nil => simp [freeTesting]
  | cons d cs ih =>
    rw [freeTesting_cons, ih]
    by_cases hd : (s.cell d).state = .testing
    · rw [if_pos hd]
      by_cases hcd : d = c
      · subst hcd
        simp [hd]
      · simp [hcd, Ne.symm hcd]
    · rw [if_neg hd]
      by_cases hcd : d = c
      · subst hcd
        simp [hd]
      · simp [Ne.symm hcd]

/-- Stopping the cell under test writes its code and its entry alone (R145). -/
theorem stopCellUnderTest_cells_only (t : TestRecord) : s.stopCellUnderTest t =
    { s with
      allocator := { s.allocator with cells := (s.stopCellUnderTest t).allocator.cells }
      cellArray := (s.stopCellUnderTest t).cellArray } := by
  unfold stopCellUnderTest
  cases t.current <;> rfl

end

/-- The cell a running step is made on. -/
def UnderTest (t : TestRecord) (c : Fin 24) : Prop := ∃ step, t.current = some step ∧ step.cell = c

/-- A test stopped early: the cell under test is INCOMPLETE, the untested cells are freed (R145, R146). -/
def stopTest (s : State) (t : TestRecord) : State := (s.stopCellUnderTest t).freeTesting t.cells

theorem abortTest_eq (s : State) (t : TestRecord) : s.abortTest t = (s.stopTest t).finishTest t.bank := rfl

theorem stopTest_cells_only (s : State) (t : TestRecord) : s.stopTest t =
    { s with
      allocator := { s.allocator with cells := (s.stopTest t).allocator.cells }, cellArray := (s.stopTest t).cellArray } := by
  calc s.stopTest t = { s.stopCellUnderTest t with allocator := { (s.stopCellUnderTest t).allocator with
          cells := (s.stopTest t).allocator.cells } } := freeTesting_cells_only _ _
    _ = _ := by
      have harray : (s.stopTest t).cellArray = (s.stopCellUnderTest t).cellArray := cellArray_freeTesting _ _
      rw [harray, stopCellUnderTest_cells_only]

section
variable {s : State} {t : TestRecord} {c : Fin 24}

theorem drive_stopTest (c : Fin 24) : (s.stopTest t).drive c = (s.stopCellUnderTest t).drive c :=
  congrArg (fun array => array[c]) (cellArray_freeTesting (s.stopCellUnderTest t) t.cells)

theorem cell_stopCellUnderTest_under (h : UnderTest t c) :
    (s.stopCellUnderTest t).cell c = { s.cell c with lastResult := .incomplete } := by
  obtain ⟨step, hstep, rfl⟩ := h
  simp [stopCellUnderTest, hstep, zeroCode]

theorem cell_stopCellUnderTest_other (h : ¬UnderTest t c) : (s.stopCellUnderTest t).cell c = s.cell c := by
  unfold stopCellUnderTest
  split
  · next step hstep =>
    have hne : step.cell ≠ c := fun he => h ⟨step, hstep, he⟩
    simp [hne, zeroCode]
  · rfl

theorem drive_stopTest_under (h : UnderTest t c) : (s.stopTest t).drive c = { s.drive c with code := 0 } := by
  obtain ⟨step, hstep, rfl⟩ := h
  simp [drive_stopTest, stopCellUnderTest, hstep, zeroCode]

theorem drive_stopTest_other (h : ¬UnderTest t c) : (s.stopTest t).drive c = s.drive c := by
  rw [drive_stopTest]
  unfold stopCellUnderTest
  split
  · next step hstep =>
    have hne : step.cell ≠ c := fun he => h ⟨step, hstep, he⟩
    simp [hne, zeroCode]
  · rfl

/-- What stopping a test leaves of a cell entry: its result only if it was under test, its state unless it was TESTING. -/
theorem cell_stopTest (s : State) (t : TestRecord) (c : Fin 24) :
    (UnderTest t c → ((s.stopTest t).cell c).lastResult = .incomplete) ∧
    (¬UnderTest t c → ((s.stopTest t).cell c).lastResult = (s.cell c).lastResult) ∧
    ((s.stopTest t).cell c).route = (s.cell c).route ∧
    ((s.stopTest t).cell c).state = if c ∈ t.cells ∧ (s.cell c).state = .testing then .free else (s.cell c).state := by
  have hcell := cell_freeTesting (s.stopCellUnderTest t) t.cells c
  by_cases h : UnderTest t c
  · rw [cell_stopCellUnderTest_under h] at hcell
    simp only [stopTest, hcell, h, not_true, false_implies, true_implies, true_and]
    split <;> exact ⟨rfl, rfl, rfl⟩
  · rw [cell_stopCellUnderTest_other h] at hcell
    simp only [stopTest, hcell, h, not_false_iff, false_implies, true_implies, true_and]
    split <;> exact ⟨rfl, rfl, rfl⟩

end

/-! ## The judgement of a step (R143, R144) -/

section
variable {s : State} {t : TestRecord} {step : TestStep} {current : Nat}

theorem completeTestStep_idle (h : ∀ t, s.selfTest = some t → t.current = none) : s.completeTestStep current = s := by
  unfold completeTestStep
  split
  · next t ht => simp only [h t ht]
  · rfl

section
variable (ht : s.selfTest = some t) (hstep : t.current = some step)
include ht hstep

theorem completeTestStep_next {r : Range} {chk : Check} (hgood : checkPasses step.check step.range current = true)
    (hnext : nextCheck step.range step.check = some (r, chk)) :
    s.completeTestStep current = s.startTestStep t step.cell r chk := by
  simp only [completeTestStep, ht, hstep, hgood, if_true, hnext]

theorem completeTestStep_passed (hgood : checkPasses step.check step.range current = true)
    (hlast : nextCheck step.range step.check = none) :
    s.completeTestStep current = s.endCellTest t step.cell .free .pass := by
  simp only [completeTestStep, ht, hstep, hgood, if_true, hlast]

theorem completeTestStep_failed (hbad : ¬checkPasses step.check step.range current = true) :
    s.completeTestStep current = s.endCellTest t step.cell (.outOfService .test) step.check.failure := by
  simp only [completeTestStep, ht, hstep, if_neg hbad]

end

/-- The cells that stand before a cell are passed over to find its successors. -/
theorem tail_dropWhile_before {before after : List (Fin 24)} {c : Fin 24} (h : c ∉ before) :
    ((before ++ c :: after).dropWhile (· != c)).tail = after := by
  have hbefore : ∀ d ∈ before, (d != c) = true := fun d hd => bne_iff_ne.2 fun he => h (he ▸ hd)
  rw [List.dropWhile_append_of_pos hbefore]
  simp

variable (s) in
/-- The cell's outcome as its test ends: code 0, its state and result (R144). -/
def withOutcome (c : Fin 24) (st : CellState) (r : TestResult) : State :=
  (s.setDrive c { s.drive c with code := 0 }).setCell c { s.cell c with state := st, lastResult := r }

section
variable {c : Fin 24} {st : CellState} {r : TestResult} {before after : List (Fin 24)} (hc : c ∉ before)
include hc

theorem endCellTest_next {d : Fin 24} (hcells : t.cells = before ++ c :: d :: after) :
    s.endCellTest t c st r = (s.withOutcome c st r).startTestStep t d .low .gain := by
  simp only [endCellTest, hcells, tail_dropWhile_before hc]
  rfl

theorem endCellTest_last (hcells : t.cells = before ++ [c]) :
    s.endCellTest t c st r = (s.withOutcome c st r).finishTest t.bank := by
  simp only [endCellTest, hcells, tail_dropWhile_before hc]
  rfl

end
end
end State

/-! ## The windows (R143) -/

theorem checkPasses_gain {r : Range} {current : Nat} : checkPasses .gain r current = true ↔ match r with
    | .low => 2376 ≤ current ∧ current ≤ 2625
    | .mid => 11878 ≤ current ∧ current ≤ 13128
    | .high => 47512 ≤ current ∧ current ≤ 52512 := by
  simp only [checkPasses, Bool.and_eq_true, decide_eq_true_iff]
  cases r <;> simp only [Range.fullScale] <;> omega

theorem checkPasses_offset {r : Range} {current : Nat} :
    checkPasses .offset r current = true ↔ current < match r with | .low => 50 | .mid => 250 | .high => 1000 := by
  simp only [checkPasses, decide_eq_true_iff]
  cases r <;> simp only [Range.fullScale] <;> omega

theorem checkPasses_leak {r : Range} {current : Nat} :
    checkPasses .leak r current = true ↔ current < match r with | .low => 10 | .mid => 50 | .high => 200 := by
  simp only [checkPasses, decide_eq_true_iff]
  cases r <;> simp only [Range.fullScale] <;> omega

theorem loadMicroamps_bounds (nano : Nat) :
    1000 * loadMicroamps nano ≤ nano + 500 ∧ nano + 500 < 1000 * (loadMicroamps nano + 1) := by
  have hbounds := roundDiv_bounds nano (d := 1000) (by omega)
  unfold loadMicroamps
  omega

/-- Settles O58: the next check is read off the table of nine, and the ends of a cell's test and of the whole test are written out. -/
theorem testStepsAreJudgedAndEnd : Obligations.TestStepsAreJudgedAndEnd := by
  unfold Obligations.TestStepsAreJudgedAndEnd
  refine ⟨fun s nano t step => ?judged, fun s nano h => next_driveOutputs (completeTestStep_idle h),
    fun s t c st r before after hcells hc => ?ends, fun s b => finishTest_eq s b,
    fun s t c r chk => startTestStep_eq s t c r chk, fun r current => checkPasses_gain,
    fun r current => checkPasses_offset, fun r current => checkPasses_leak, loadMicroamps_bounds⟩
  case judged =>
    intro s1 ht hstep good ends
    refine ⟨fun hgood r chk hnext => ?_, fun hgood hr hchk => ?_, fun hbad => ?_⟩
    · have hstep' : nextCheck step.range step.check = some (r, chk) := by
        simp only [List.mem_cons, Prod.mk.injEq, List.not_mem_nil, or_false] at hnext
        obtain h | h | h | h | h | h | h | h := hnext
        all_goals
          obtain ⟨⟨hr, hc⟩, rfl, rfl⟩ := h
          rw [hr, hc]
          rfl
      exact next_driveOutputs (completeTestStep_next ht hstep hgood hstep')
    · exact next_driveOutputs (completeTestStep_passed ht hstep hgood (by rw [hr, hchk]; rfl))
    · have hfailure : step.check.failure =
          (match step.check with | .gain => .failGain | .offset => .failOffset | .leak => .failLeak) := by
        cases step.check <;> rfl
      exact next_driveOutputs ((completeTestStep_failed ht hstep hbad).trans (congrArg _ hfailure))
  case ends =>
    refine ⟨fun d ds hafter => ?_, fun hafter => ?_⟩
    all_goals subst hafter
    · exact endCellTest_next hc hcells
    · exact endCellTest_last hc hcells

end Sys2Proof.Machine
end

section
/-! PROOFS. CELL TEST, TEST ABORT and the rail-up notice (R37, R41, R140 to R142, R145). -/

namespace Sys2Proof.Machine

open State

/-! ## The parameters and the cells of a CELL TEST (R140, R141) -/

theorem readCellTest_eq_none {bank option : Byte} :
    readCellTest bank option = none ↔ 4 ≤ bank.toNat ∨ 2 ≤ option.toNat := by
  rw [← index?_eq_none (n := 4), ← choice?_eq_none (zero := TestOption.retain) (one := .retestAll)]
  unfold readCellTest
  cases index? 4 bank.toNat <;> cases choice? TestOption.retain .retestAll option <;> simp

theorem readCellTest_eq_some {bank option : Byte} {b : Fin 4} {o : TestOption} (hb : bank.toNat = b.val)
    (ho : option.toNat = (match o with | .retain => 0 | .retestAll => 1)) : readCellTest bank option = some (b, o) := by
  have hoption : choice? TestOption.retain .retestAll option = some o := by
    rw [choice?_eq_some]
    cases o with
    | retain => exact .inl ⟨ho, rfl⟩
    | retestAll => exact .inr ⟨ho, rfl⟩
  simp only [readCellTest, index?_eq_some.2 hb.symm, hoption, Option.bind_eq_bind, Option.bind_some, Option.pure_def]

/-- The cells an option takes into the test of a bank (R141). -/
def TakenIntoTest (s : State) (b : Fin 4) (o : TestOption) (c : Fin 24) : Prop :=
  bankOf c = b ∧ ((s.cell c).state = .free ∨ (o = .retestAll ∧ ∃ w, (s.cell c).state = .outOfService w))

theorem mem_testCells {s : State} {b : Fin 4} {o : TestOption} {c : Fin 24} :
    c ∈ s.testCells b o ↔ TakenIntoTest s b o c := by
  simp only [State.testCells, TakenIntoTest, List.mem_filter, mem_cellsOf]
  cases (s.cell c).state with
  | outOfService w => cases o <;> simp
  | free | allotted | testing => simp

theorem pairwise_testCells (s : State) (b : Fin 4) (o : TestOption) : (s.testCells b o).Pairwise (· < ·) :=
  (pairwise_cellsOf b).filter _

theorem isEmpty_testCells_iff {s : State} {b : Fin 4} {o : TestOption} :
    (s.testCells b o).isEmpty = true ↔ ∀ c, ¬TakenIntoTest s b o c := by
  simp only [List.isEmpty_iff, List.eq_nil_iff_forall_not_mem, mem_testCells]

/-! ## Checks 2 to 4 (R140) -/

/-- Check 3: a test runs, or a cell of the bank is ALLOTTED. -/
def TestBusy (s : State) (b : Fin 4) : Prop :=
  s.selfTest ≠ none ∨ ∃ c h, bankOf c = b ∧ (s.cell c).state = .allotted h

section
variable {s : State} {b : Fin 4} {o : TestOption}

theorem testBusy_iff : (s.selfTest.isSome || s.anyAllotted b) = true ↔ TestBusy s b := by
  simp only [TestBusy, Bool.or_eq_true, anyAllotted_iff, Option.isSome_iff_ne_none]

theorem cellTestRefusal_unavailable (h : (s.bank b).state = .disabled ∨ (s.bank b).state = .faulted) :
    s.cellTestRefusal b o = some .bankUnavailable := if_pos h

section
variable (h : ¬((s.bank b).state = .disabled ∨ (s.bank b).state = .faulted))
include h

theorem cellTestRefusal_busy (hb : TestBusy s b) : s.cellTestRefusal b o = some .bankBusy := by
  rw [State.cellTestRefusal, if_neg h, if_pos (testBusy_iff.2 hb)]

variable (hb : ¬TestBusy s b)
include hb

theorem cellTestRefusal_empty (hnone : ∀ c, ¬TakenIntoTest s b o c) : s.cellTestRefusal b o = some .wrongState := by
  rw [State.cellTestRefusal, if_neg h, if_neg (fun hbusy => hb (testBusy_iff.1 hbusy)),
    if_pos (isEmpty_testCells_iff.2 hnone)]

theorem cellTestRefusal_none {c : Fin 24} (hc : TakenIntoTest s b o c) : s.cellTestRefusal b o = none := by
  rw [State.cellTestRefusal, if_neg h, if_neg (fun hbusy => hb (testBusy_iff.1 hbusy)),
    if_neg (fun hnone => isEmpty_testCells_iff.1 hnone c hc)]

end
end

/-! ## An accepted CELL TEST (R141, log 8) -/

namespace State

/-- Cells go to TESTING (R141). -/
def putToTest (s : State) (cs : List (Fin 24)) : State :=
  cs.foldl (fun s c => s.setCell c { s.cell c with state := .testing }) s

section
variable (s : State)

theorem putToTest_cons (c : Fin 24) (cs : List (Fin 24)) :
    s.putToTest (c :: cs) = (s.setCell c { s.cell c with state := .testing }).putToTest cs := rfl

theorem putToTest_cells_only (cs : List (Fin 24)) : s.putToTest cs =
    { s with allocator := { s.allocator with cells := (s.putToTest cs).allocator.cells } } := by
  induction cs generalizing s with
  | nil => rfl
  | cons c cs ih => exact (ih _).trans rfl

theorem cell_putToTest (cs : List (Fin 24)) (c : Fin 24) :
    (s.putToTest cs).cell c = if c ∈ cs then { s.cell c with state := .testing } else s.cell c := by
  induction cs generalizing s with
  | nil => rfl
  | cons d cs ih =>
    rw [putToTest_cons, ih]
    by_cases hcd : d = c
    · subst hcd
      simp
    · simp [hcd, Ne.symm hcd]

/-- A bank under test in a given state, its cells TESTING, the record fresh (R141). -/
def testBegun (b : Fin 4) (o : TestOption) (st : BankState) : State :=
  { s.setBank b { s.bank b with state := st } with
    allocator := { s.allocator with cells := (s.putToTest (s.testCells b o)).allocator.cells }
    selfTest := some ⟨b, o, s.testCells b o, none, false⟩ }

theorem startTest_eq (b : Fin 4) (o : TestOption) :
    let st := (s.bank b).state.underTest (s.bank b).railGood
    s.startTest b o = if st = .testing none then (s.testBegun b o st).railUpNotice b else s.testBegun b o st := by
  intro st
  have hbegun : ({ s.putToTest (s.testCells b o) with
      selfTest := some ⟨b, o, s.testCells b o, none, false⟩ } : State).moveBank b st = s.testBegun b o st := by
    rw [putToTest_cells_only]
    rfl
  exact congrArg (fun t => if st = .testing none then t.railUpNotice b else t) hbegun

end

section
variable {s : State} {b : Fin 4} {o : TestOption}

theorem startTest_rail_up (h : (s.bank b).state.underTest (s.bank b).railGood = .testing none) :
    s.startTest b o = (s.testBegun b o (.testing none)).railUpNotice b := by
  rw [startTest_eq, if_pos h, h]

theorem startTest_rail_down {w : Nat} (h : (s.bank b).state.underTest (s.bank b).railGood = .testing (some w)) :
    s.startTest b o = s.testBegun b o (.testing (some w)) := by
  rw [startTest_eq, h, if_neg (by simp)]

end

/-! ## TEST ABORT and the rail-up notice (R142, R145) -/

section
variable {s : State} {b : Fin 4} {t : TestRecord}

theorem railUpNotice_other {d : Fin 4} (ht : s.selfTest = some t) (hd : d ≠ t.bank) : s.railUpNotice d = s := by
  simp only [railUpNotice, ht, if_neg (Ne.symm hd)]

theorem railUpNotice_abort (ht : s.selfTest = some t) (h : t.abort = true) : s.railUpNotice t.bank = s.abortTest t := by
  simp only [railUpNotice, ht, if_true, h]

theorem railUpNotice_first {c : Fin 24} {cs : List (Fin 24)} (ht : s.selfTest = some t) (h : t.abort = false)
    (hcells : t.cells = c :: cs) : s.railUpNotice t.bank = s.startTestStep t c .low .gain := by
  simp only [railUpNotice, ht, if_true, h, Bool.false_eq_true, if_false, hcells]

theorem railUpNotice_idle (ht : s.selfTest = none) : s.railUpNotice b = s := by simp only [railUpNotice, ht]

theorem testAbortBody_some (ht : s.selfTest = some t) : testAbortBody s =
    if t.current = none then accept { s with selfTest := some { t with abort := true } } else accept (s.abortTest t) := by
  simp only [testAbortBody, ht]
  cases t.current <;> simp

end
end State

/-- Settles O57: the checks decide in order, and the bank's state says whether the rail is up for the test begun. -/
theorem cellTestAndTestAbort : Obligations.CellTestAndTestAbort := by
  unfold Obligations.CellTestAndTestAbort
  refine ⟨fun x bank option s ha => ?cellTest, fun x s ha => ?testAbort, fun s b t ht hb => ?railUp,
    fun s b ht => railUpNotice_idle ht, fun s t => ?abort⟩
  case cellTest =>
    intro s1 i
    have answer {r : Reply} (h : cellTestBody bank option s1 = r) :
        exec i s = .next (r.state.respond i x r.status r.payload) := request_reply rfl ha h
    refine ⟨fun h => answer (r := refuse s1 .badParam) (by simp only [cellTestBody, readCellTest_eq_none.2 h]),
      fun b o hb ho => ?_⟩
    intro e under unavailable busy
    have hread := readCellTest_eq_some hb ho
    have refuses {st : Status} (h : s1.cellTestRefusal b o = some st) : exec i s = .next (s1.respond i x st []) :=
      answer (r := refuse s1 st) (by simp only [cellTestBody, hread, h])
    refine ⟨fun c => mem_testCells, pairwise_testCells s1 b o, fun h => refuses (cellTestRefusal_unavailable h),
      fun h hbusy => refuses (cellTestRefusal_busy h hbusy), fun h hbusy hnone => refuses (cellTestRefusal_empty h hbusy hnone),
      fun h hbusy c hc => ?_⟩
    have accepts {t : State} (ht : s1.startTest b o = t) : exec i s = .next (t.respond i x .ok []) :=
      answer (r := accept t) (by simp only [cellTestBody, hread, cellTestRefusal_none h hbusy hc, ht])
    have hcell := cell_putToTest s1 (s1.testCells b o)
    refine ⟨(s1.putToTest (s1.testCells b o)).allocator.cells, fun d hd => (hcell d).trans (if_pos (mem_testCells.2 hd)),
      fun d hd => (hcell d).trans (if_neg fun hm => hd (mem_testCells.1 hm)), fun hst hg => accepts (startTest_rail_down ?_),
      fun hst hg => accepts (startTest_rail_up ?_), fun w hst => accepts (startTest_rail_down ?_),
      fun n u hst => accepts (startTest_rail_up ?_)⟩
    · rw [hst, hg]
      rfl
    · rw [hst, hg]
      rfl
    · rw [hst]
      rfl
    · rw [hst]
      rfl
  case testAbort =>
    intro s1 i
    have answer {r : Reply} (h : testAbortBody s1 = r) : exec i s = .next (r.state.respond i x r.status r.payload) :=
      request_reply rfl ha h
    refine ⟨fun ht => answer (r := refuse s1 .wrongState) (by simp only [testAbortBody, ht]), fun t ht => ?_⟩
    have hbody := testAbortBody_some ht
    exact ⟨fun h => answer (hbody.trans (if_pos h)), fun h => answer (hbody.trans (if_neg h))⟩
  case railUp =>
    subst hb
    exact ⟨fun d hd => railUpNotice_other ht hd, railUpNotice_abort ht, fun c cs h hcells => railUpNotice_first ht h hcells⟩
  case abort =>
    intro isUnder
    refine ⟨s.stopTest t, abortTest_eq s t, stopTest_cells_only s t, fun c => ?_⟩
    obtain ⟨hunder, hother, hroute, hstate⟩ := cell_stopTest s t c
    exact ⟨fun h => ⟨drive_stopTest_under h, hunder h⟩, fun h => ⟨drive_stopTest_other h, hother h⟩, hroute, hstate⟩

end Sys2Proof.Machine
end

section
/-! PROOFS. HOLD and RUN: the pool's two states, and what entering and leaving HOLD makes of seats and lingers
(R39, R149, R150, R154). -/

namespace Sys2Proof.Machine

open State

namespace State

/-! ## A change made at every seat -/

/-- One change made at every seat of a list. -/
def mapSeats (s : State) (f : SeatEntry → SeatEntry) (xs : List Seat) : State :=
  xs.foldl (fun s x => s.setSeat x (f (s.seat x))) s

section
variable (s : State) (f : SeatEntry → SeatEntry)

theorem mapSeats_cons (x : Seat) (xs : List Seat) : s.mapSeats f (x :: xs) = (s.setSeat x (f (s.seat x))).mapSeats f xs := rfl

theorem mapSeats_seats_only (xs : List Seat) :
    s.mapSeats f xs = { s with seatCtl := { s.seatCtl with seats := (s.mapSeats f xs).seatCtl.seats } } := by
  induction xs generalizing s with
  | nil => rfl
  | cons x xs ih => exact (ih _).trans rfl

theorem seat_mapSeats {xs : List Seat} (h : xs.Nodup) (y : Seat) :
    (s.mapSeats f xs).seat y = if y ∈ xs then f (s.seat y) else s.seat y := by
  induction xs generalizing s with
  | nil => rfl
  | cons x xs ih =>
    rw [List.nodup_cons] at h
    obtain ⟨hx, hxs⟩ := h
    rw [mapSeats_cons, ih _ hxs]
    by_cases hxy : x = y
    · subst hxy
      simp [hx]
    · simp [hxy, Ne.symm hxy]

/-- A change made at all seats is made once at each. -/
theorem seat_mapSeats_all (y : Seat) : (s.mapSeats f Seat.all).seat y = f (s.seat y) :=
  (seat_mapSeats s f (by decide) y).trans (if_pos (seat_mem_all y))

theorem setSeat_seat (x : Seat) : s.setSeat x (s.seat x) = s := by
  simp [setSeat, seat]

end

/-! ## HOLD at every seat (R149, R160) -/

/-- The entry of a seat at which HOLD is reported: latched afresh, if the seat is enabled. -/
def holdRaised (e : SeatEntry) : SeatEntry :=
  if e.enabled then { e with latched := e.latched ||| 0x0020#16, acked := e.acked &&& ~~~0x0020#16 } else e

/-- The entry of a seat at which HOLD ends: cleared, if it was acknowledged. -/
def holdEnded (e : SeatEntry) : SeatEntry :=
  if e.acked &&& 0x0020#16 ≠ 0#16 then { e with latched := e.latched &&& ~~~0x0020#16, acked := e.acked &&& ~~~0x0020#16 }
  else e

section
variable (s : State)

theorem raiseLevel_hold (x : Seat) : s.raiseLevel x .hold = s.setSeat x (holdRaised (s.seat x)) := by
  unfold raiseLevel holdRaised
  split
  · rfl
  · rw [setSeat_seat]

theorem endLevel_hold (x : Seat) : s.endLevel x .hold = s.setSeat x (holdEnded (s.seat x)) := by
  have hmark : Event.hold.mark = 0x0020#16 := rfl
  simp only [endLevel, holdEnded, has_eq_decide, decide_eq_true_iff, hmark]
  split
  · rfl
  · rw [setSeat_seat]

theorem raiseHold_eq : s.raiseHold = s.mapSeats holdRaised Seat.all := by
  simp only [raiseHold, mapSeats, raiseLevel_hold]

theorem endHold_eq : s.endHold = s.mapSeats holdEnded Seat.all := by
  simp only [endHold, mapSeats, endLevel_hold]

/-! ## The pool's states (R39, R149, R150) -/

theorem bank_dropLingerParts (b : Fin 4) : s.dropLingerParts.bank b =
    match (s.bank b).state with
    | .linger n _ => { s.bank b with state := .linger n 0 }
    | _ => s.bank b := by
  simp [dropLingerParts, bank] <;> rfl

/-- The pool in HOLD with a cause, lingers at whole seconds, the seats not yet told (R39, R149). -/
def heldFor (s : State) (c : HoldCause) : State := ({ s with pool := { s.pool with state := .hold c } } : State).dropLingerParts

end

section
variable {s : State}

theorem enterHold_of_held (h : s.held = true) (c : HoldCause) : s.enterHold c = s := if_pos h

theorem enterHold_of_run (h : s.held = false) (c : HoldCause) :
    s.enterHold c = (s.heldFor c).mapSeats holdRaised Seat.all := by
  rw [← raiseHold_eq]
  simp only [enterHold, h, Bool.false_eq_true, if_false, heldFor]

/-- Entering HOLD writes the pool's state, the seats and the banks alone. -/
theorem enterHold_seats_only (h : s.held = false) (c : HoldCause) : s.enterHold c =
    { s.heldFor c with seatCtl := { s.seatCtl with seats := (s.enterHold c).seatCtl.seats } } := by
  rw [enterHold_of_run h]
  exact mapSeats_seats_only _ _ _

end
end State

/-! ## The two requests (R150, R154) -/

theorem readHold_eq_none {ack : Option Byte} (h : ∃ v, ack = some v ∧ 2 ≤ v.toNat) : readHold ack = none := by
  obtain ⟨v, rfl, hv⟩ := h
  simp only [readHold, choice?_eq_none.2 hv, Option.map_none]

/-- A good HOLD writes the flag it carries, or leaves it (R150). -/
theorem readHold_flag {ack : Option Byte} {old flag : Bool}
    (h : (ack = none ∧ flag = old) ∨ (ack = some 0#8 ∧ flag = false) ∨ (ack = some 1#8 ∧ flag = true)) :
    ∃ field, readHold ack = some field ∧ field.getD old = flag := by
  obtain ⟨rfl, rfl⟩ | ⟨rfl, rfl⟩ | ⟨rfl, rfl⟩ := h
  · exact ⟨none, rfl, rfl⟩
  · exact ⟨some false, rfl, rfl⟩
  · exact ⟨some true, rfl, rfl⟩

/-- Settles O59: entering and leaving HOLD are each one change made at every seat. -/
theorem holdAndRunMoveThePool : Obligations.HoldAndRunMoveThePool := by
  unfold Obligations.HoldAndRunMoveThePool
  refine ⟨fun x ack s ha => ?hold, fun x s ha => ?run, fun s => held_iff,
    fun s c => ⟨fun h => enterHold_of_held h c, fun h => ?entered⟩, fun s => ?ended⟩
  case hold =>
    intro s1 i
    have answer {r : Reply} (h : holdBody ack s1 = r) : exec i s = .next (r.state.respond i x r.status r.payload) :=
      request_reply rfl ha h
    refine ⟨fun h => answer (r := refuse s1 .badParam) (by simp only [holdBody, readHold_eq_none h]), fun flag hflag => ?_⟩
    obtain ⟨field, hread, hfield⟩ := readHold_flag hflag
    intro flagged
    have accepts {t : State} (ht : s1.enterHold .request = t) (hack : t.seatCtl.ackInHold = s1.seatCtl.ackInHold) :
        exec i s = .next ((flagged t).respond i x .ok []) :=
      answer (r := accept (flagged t)) (by simp only [holdBody, hread, ht, hack, hfield, flagged])
    refine ⟨fun h => accepts (enterHold_of_held h _) rfl, fun h => accepts rfl ?_⟩
    rw [enterHold_seats_only h]
  case run =>
    intro s1 i
    have answer {r : Reply} (h : runBody s1 = r) : exec i s = .next (r.state.respond i x r.status r.payload) :=
      request_reply rfl ha h
    exact ⟨fun h => answer (r := accept s1) (if_neg (by simp [h])), fun h => answer (r := accept (State.rescan _)) (if_pos h)⟩
  case entered =>
    intro t
    have hframe : t = { s.heldFor c with seatCtl := { s.seatCtl with seats := t.seatCtl.seats } } := enterHold_seats_only h c
    have hseat (y : Seat) : t.seat y = holdRaised (s.seat y) := by
      have hentered : t = _ := enterHold_of_run h c
      rw [hentered]
      exact seat_mapSeats_all _ _ y
    have hbank (b : Fin 4) : t.bank b = (s.heldFor c).bank b := by rw [hframe]; rfl
    refine ⟨by rw [hframe]; rfl, by rw [hframe]; rfl, by rw [hframe]; rfl, by rw [hframe]; rfl, by rw [hframe]; rfl,
      by rw [hframe]; rfl, by rw [hframe]; rfl, by rw [hframe], by rw [hframe], by rw [hframe]; rfl, by rw [hframe]; rfl,
      hseat, fun b => (hbank b).trans (bank_dropLingerParts _ b)⟩
  case ended =>
    intro t
    have hended : t = s.mapSeats holdEnded Seat.all := endHold_eq s
    rw [hended]
    exact ⟨mapSeats_seats_only _ _ _, seat_mapSeats_all _ _⟩

end Sys2Proof.Machine
end

section
/-! PROOFS. Rail-good and rail loss (R36 to R41, R63, R113, R114, R116 to R118, R146). -/

namespace Sys2Proof.Machine

open State

namespace State

/-! ## A FAULTED bank stays dark

Nothing in the act of rail loss moves a FAULTED bank or writes a nonzero code on it: such a bank meets no demand (R36), and its cells may
not drive (R28). -/

/-- A bank is FAULTED and its cells carry code 0. -/
def Dark (s : State) (b : Fin 4) : Prop := (s.bank b).state = .faulted ∧ ∀ c, bankOf c = b → (s.drive c).code = 0

section
variable {s t : State} {b d : Fin 4}

theorem Dark.of_eq (h : s.Dark b) (hbanks : t.banks = s.banks) (hcodes : t.cellArray = s.cellArray) : t.Dark b := by
  obtain ⟨hst, hcode⟩ := h
  refine ⟨?_, fun c hc => ?_⟩
  · rw [bank, hbanks]
    exact hst
  · rw [drive, hcodes]
    exact hcode c hc

theorem dark_foldl {α : Type} {f : State → α → State} (hf : ∀ s a, s.Dark b → (f s a).Dark b) (l : List α) (h : s.Dark b) :
    (l.foldl f s).Dark b := by
  induction l generalizing s with
  | nil => exact h
  | cons a l ih => exact ih (hf s a h)

variable (h : s.Dark b)
include h

/-! ### What writes no bank and no code -/

theorem dark_putLease (k : Fin 32) (l : Lease) : (s.putLease k l).Dark b := h.of_eq rfl rfl

theorem dark_setCommitted (d : Fin 4) (n : Nat) : (s.setCommitted d n).Dark b := h.of_eq rfl rfl

theorem dark_setTerminal (m : Fin 16) (e : TerminalEntry) : (s.setTerminal m e).Dark b := h.of_eq rfl rfl

theorem dark_setCell (c : Fin 24) (e : CellEntry) : (s.setCell c e).Dark b := h.of_eq rfl rfl

theorem dark_handPool (n : PoolNotice) : (s.handPool n).Dark b := h.of_eq rfl rfl

theorem dark_postEdge (x : Seat) (v : Event) : (s.postEdge x v).Dark b := by
  unfold postEdge
  split
  · exact h.of_eq rfl rfl
  · exact h

theorem dark_raiseLevel (x : Seat) (v : Event) : (s.raiseLevel x v).Dark b := by
  unfold raiseLevel
  split
  · exact h.of_eq rfl rfl
  · exact h

theorem dark_postLease (k : Fin 32) (v : Event) : (s.postLease k v).Dark b := by
  unfold postLease
  split
  · exact dark_postEdge (dark_putLease h k _) _ v
  · exact h

theorem dark_markRailLost (k : Fin 32) : (s.markRailLost k).Dark b := by
  unfold markRailLost
  split
  · exact dark_putLease h k _
  · exact h

/-! ### Codes -/

theorem dark_setDrive {c : Fin 24} {v : CellDrive} (hv : bankOf c = b → v.code = 0) : (s.setDrive c v).Dark b := by
  obtain ⟨hst, hcode⟩ := h
  refine ⟨hst, fun e he => ?_⟩
  rw [drive_setDrive]
  split
  · next hce => exact hv (hce ▸ he)
  · exact hcode e he

/-- A cell of a FAULTED bank may not drive (R28). -/
theorem mayDrive_of_dark {c : Fin 24} (hc : bankOf c = b) : s.mayDrive c = false := by
  have hst : (s.bank (bankOf c)).state = .faulted := hc ▸ h.1
  unfold mayDrive
  rw [hst]
  split
  · split
    · exact Bool.and_false _
    · rfl
  all_goals rfl

theorem dark_writeCode (c : Fin 24) (v : Nat) : (s.writeCode c v).Dark b :=
  dark_setDrive h fun hc => by simp [mayDrive_of_dark h hc]

theorem dark_zeroCode (c : Fin 24) : (s.zeroCode c).Dark b := dark_setDrive h fun _ => rfl

theorem dark_writeRange (c : Fin 24) (r : Range) : (s.writeRange c r).Dark b := dark_setDrive h fun hc => h.2 c hc

theorem dark_freeCell (c : Fin 24) : (s.freeCell c).Dark b := dark_setCell (dark_zeroCode h c) c _

theorem dark_allotCell (g : Handle) (m : Fin 16) (r : Range) (c : Fin 24) : (s.allotCell g m r c).Dark b :=
  dark_writeRange (dark_setCell h c _) c r

theorem dark_zeroCodes (cs : List (Fin 24)) : (s.zeroCodes cs).Dark b := dark_foldl (fun _ c hs => dark_zeroCode hs c) cs h

theorem dark_freeCells (cs : List (Fin 24)) : (s.freeCells cs).Dark b := dark_foldl (fun _ c hs => dark_freeCell hs c) cs h

theorem dark_allotCells (g : Handle) (m : Fin 16) (r : Range) (cs : List (Fin 24)) : (s.allotCells g m r cs).Dark b :=
  dark_foldl (fun _ c hs => dark_allotCell hs g m r c) cs h

theorem dark_writeRamp (cells : List RampCell) (n : Nat) : (s.writeRamp cells n).Dark b :=
  dark_foldl (fun _ c hs => dark_writeCode hs c.cell _) cells h

/-! ### Banks -/

theorem dark_setBank {v : Bank} (hv : d = b → v.state = .faulted) : (s.setBank d v).Dark b := by
  obtain ⟨hst, hcode⟩ := h
  refine ⟨?_, hcode⟩
  rw [bank_setBank]
  split
  · next hdb => exact hv hdb
  · exact hst

/-- A report that keeps a bank's state. -/
theorem dark_report {v : Bank} (hv : v.state = (s.bank d).state) : (s.setBank d v).Dark b :=
  dark_setBank h fun hd => hv.trans (hd ▸ h.1)

theorem dark_moveBank {st : BankState} (hd : (s.bank d).state ≠ .faulted) : (s.moveBank d st).Dark b :=
  dark_setBank h fun hdb => absurd (hdb ▸ h.1) hd

theorem dark_enterOn (hd : (s.bank d).state ≠ .faulted) : (s.enterOn d).Dark b := by
  unfold enterOn
  split
  · exact dark_moveBank h hd
  · exact (dark_moveBank h hd (st := .on)).of_eq rfl rfl

theorem dark_demandRisen (d : Fin 4) : (s.demandRisen d).Dark b := by
  unfold demandRisen
  split
  · next hd =>
    split
    · exact dark_enterOn h (by simp [hd])
    · exact dark_moveBank h (by simp [hd])
  · next hd => exact dark_enterOn h (by simp [hd])
  all_goals exact h

theorem dark_demandFallen (d : Fin 4) : (s.demandFallen d).Dark b := by
  unfold demandFallen
  split
  · next hd => exact dark_moveBank h (by simp [hd.2])
  · exact h

theorem dark_raiseClaim (d : Fin 4) : (s.raiseClaim d).Dark b := by
  unfold raiseClaim
  refine dark_demandRisen ?_ d
  exact dark_report h rfl

theorem dark_raiseDriving (d : Fin 4) : (s.raiseDriving d).Dark b := by
  unfold raiseDriving
  refine dark_demandRisen ?_ d
  exact dark_report h rfl

theorem dark_dropClaim (d : Fin 4) : (s.dropClaim d).Dark b := by
  unfold dropClaim
  refine dark_demandFallen ?_ d
  exact dark_report h rfl

theorem dark_dropDriving (d : Fin 4) : (s.dropDriving d).Dark b := by
  unfold dropDriving
  refine dark_demandFallen ?_ d
  exact dark_report h rfl

theorem dark_reportStop (old : LeaseState) (d : Fin 4) : (s.reportStop old d).Dark b := by
  match old with
  | .starting .wake => exact dark_dropClaim h d
  | .starting .ramp | .verifying | .active _ _ | .rampdown _ => exact dark_dropDriving h d
  | .waiting _ _ | .suspended _ | .closed _ => exact h

/-! ### Stops and starts of a lease -/

theorem dark_suspendHolding (k : Fin 32) (why : SuspendReason) : (s.suspendHolding k why).Dark b := by
  unfold suspendHolding
  split
  · split
    · exact dark_reportStop (dark_freeCells (dark_zeroCodes (dark_putLease h k _) _) _) _ _
    · exact dark_putLease h k _
  · exact h

theorem dark_closeHolding (k : Fin 32) (why : EndReason) : (s.closeHolding k why).Dark b := by
  unfold closeHolding
  split
  · split
    · exact dark_reportStop (dark_setTerminal (dark_setCommitted (dark_freeCells (dark_putLease h k _) _) _ _) _ _) _ _
    · exact dark_putLease h k _
  · exact h

theorem dark_takeDestination (k : Fin 32) (dest : Destination) : (s.takeDestination k dest).Dark b := by
  cases dest with
  | suspended why => exact dark_suspendHolding h k why
  | closed why => exact dark_closeHolding h k why

theorem dark_startRamp (k : Fin 32) (level : Nat) (ends : Allocation → List (Fin 24 × Nat)) :
    (s.startRamp k level ends).Dark b := by
  unfold startRamp
  split
  · split
    · dsimp only
      split
      · exact dark_writeRamp (dark_putLease h k _) _ _
      · exact dark_putLease h k _
    · exact h
  · exact h

theorem dark_startTargetRamp (k : Fin 32) : (s.startTargetRamp k).Dark b := by
  unfold startTargetRamp
  split
  · exact dark_startRamp h k _ _
  · exact h

theorem dark_enterStarting (k : Fin 32) : (s.enterStarting k).Dark b := by
  unfold enterStarting
  split
  · split
    · split
      · exact dark_startTargetRamp (dark_raiseDriving (dark_putLease h k _) _) k
      · exact dark_raiseClaim (dark_putLease h k _) _
    · exact h
  · exact h

/-! ### The rescan -/

theorem dark_admitTo (k : Fin 32) (l : Lease) (d : Fin 4) : (s.admitTo k l d).Dark b :=
  dark_enterStarting (dark_putLease (dark_setTerminal (dark_setCommitted (dark_allotCells h _ _ _ _) _ _) _ _) k _) k

theorem dark_tryWaiting (k : Fin 32) : (s.tryWaiting k).Dark b := by
  unfold tryWaiting
  split
  · next l _ =>
    split
    · split
      · next d _ =>
        have hadmitted := dark_admitTo h k l d
        refine dark_postLease ?_ k _
        exact hadmitted.of_eq rfl rfl
      · exact h
    all_goals exact h
  · exact h

theorem dark_rescanIf (trigger : Bool) : (s.rescanIf trigger).Dark b := by
  cases trigger with
  | false => exact h
  | true =>
    rw [rescanIf_true, rescan]
    split
    · exact h
    · exact dark_foldl (fun _ k hs => dark_tryWaiting hs k) _ h

/-! ### Rail loss -/

theorem dark_faultLease (k : Fin 32) (kind : FaultKind) : (s.faultLease k kind).Dark b := by
  unfold faultLease
  split
  · next l _ =>
    have hstopped := dark_takeDestination h k (l.policy.destination kind)
    have hmarked : (if kind = .railLost then (s.takeDestination k (l.policy.destination kind)).markRailLost k
        else s.takeDestination k (l.policy.destination kind)).Dark b := by
      split
      · exact dark_markRailLost hstopped k
      · exact hstopped
    exact dark_handPool (dark_postLease hmarked k _) _
  · exact h

theorem dark_railLossLease (k : Fin 32) : (s.railLossLease k).Dark b := by
  unfold railLossLease
  split
  · split
    · exact dark_faultLease h k _
    · exact dark_faultLease h k _
    · exact dark_faultLease h k _
    · exact dark_postLease (dark_markRailLost (dark_takeDestination h k _) k) k _
    · exact dark_markRailLost h k
    all_goals exact h
  · exact h

theorem dark_stopTest (r : TestRecord) : (s.stopTest r).Dark b := by
  have hstopped : (s.stopCellUnderTest r).Dark b := by
    unfold stopCellUnderTest
    split
    · exact dark_setCell (dark_zeroCode h _) _ _
    · exact h
  refine hstopped.of_eq ?_ (cellArray_freeTesting _ _)
  rw [stopTest, freeTesting_cells_only]

theorem dark_loseTest (d : Fin 4) : (s.loseTest d).Dark b := by
  unfold loseTest
  split
  · split
    · next r _ _ =>
      have hstopped := dark_stopTest h r
      refine dark_postEdge ?_ _ _
      exact hstopped.of_eq rfl rfl
    · exact h
  · exact h

end

/-! ## Rail loss (R40, R116) -/

section
variable (s : State) (b : Fin 4)

/-- The bank as rail loss finds it: FAULTED, its codes 0, BANK_FAULT raised (R40). -/
def bankFaulted : State :=
  ((s.setBank b { s.bank b with state := .faulted }).zeroCodes (cellsOf b)).raiseLevel .s .bankFault

theorem dark_bankFaulted : (s.bankFaulted b).Dark b := by
  refine dark_raiseLevel ⟨?_, fun c hc => ?_⟩ _ _
  · simp
  · simp [hc]

theorem railLoss_eq : s.railLoss b =
    (((s.leasesOn b).foldl (fun s k => s.railLossLease k) (s.bankFaulted b)).loseTest b).rescanIf
      ((s.leasesOn b).any s.railLossGivesBack || (s.bank b).state.isTesting) := rfl

theorem dark_railLoss : (s.railLoss b).Dark b :=
  dark_rescanIf (dark_loseTest (dark_foldl (fun _ k hs => dark_railLossLease hs k) _ (dark_bankFaulted s b)) b) _

theorem zeroCodes_codes_only (cs : List (Fin 24)) : s.zeroCodes cs = { s with cellArray := (s.zeroCodes cs).cellArray } := by
  induction cs generalizing s with
  | nil => rfl
  | cons c cs ih => exact (ih _).trans rfl

end

theorem isTesting_iff {st : BankState} : st.isTesting = true ↔ ∃ w, st = .testing w := by
  cases st <;> simp [BankState.isTesting]

theorem mem_leasesOn {s : State} {b : Fin 4} {k : Fin 32} :
    k ∈ s.leasesOn b ↔ ∃ l a, s.lease? k = some l ∧ l.alloc = some a ∧ a.bank = b := by
  simp only [leasesOn, allSlots, List.mem_filter, List.mem_finRange, true_and, Option.any_eq_true, Option.bind_eq_some_iff,
    beq_iff_eq]
  exact ⟨fun ⟨a, ⟨l, hl, ha⟩, hb⟩ => ⟨l, a, hl, ha, hb⟩, fun ⟨l, a, hl, ha, hb⟩ => ⟨a, ⟨l, hl, ha⟩, hb⟩⟩

theorem pairwise_leasesOn (s : State) (b : Fin 4) : (s.leasesOn b).Pairwise (· < ·) := (List.pairwise_lt_finRange 32).filter _

/-! ## The end of the bank's test (R146) -/

section
variable {s : State} {b : Fin 4} {r : TestRecord}

theorem loseTest_other (h : ∀ r, s.selfTest = some r → r.bank ≠ b) : s.loseTest b = s := by
  unfold loseTest
  split
  · next r hr => exact if_neg (h r hr)
  · rfl

theorem loseTest_eq (hr : s.selfTest = some r) (hb : r.bank = b) :
    s.loseTest b = ({ s.stopTest r with selfTest := none } : State).postEdge .s .testDone := by
  simp only [loseTest, hr, if_pos hb, stopTest]

end

/-- A posting writes the seats alone. -/
theorem postEdge_seats_only (s : State) (x : Seat) (v : Event) :
    s.postEdge x v = { s with seatCtl := { s.seatCtl with seats := (s.postEdge x v).seatCtl.seats } } := by
  unfold postEdge
  split <;> rfl

theorem seat_postEdge (s : State) (x y : Seat) (v : Event) : (s.postEdge x v).seat y =
    if x = y ∧ (s.seat x).enabled = true then { s.seat x with latched := (s.seat x).latched ||| v.mark } else s.seat y := by
  unfold postEdge
  cases (s.seat x).enabled <;> simp

/-! ## One lease under rail loss (R116 to R118) -/

section
variable {s : State} {k : Fin 32} {l : Lease} (hl : s.lease? k = some l)
include hl

theorem railLossLease_fault
    (hst : (∃ ph, l.state = .starting ph) ∨ l.state = .verifying ∨ ∃ st u, l.state = .active st u) :
    s.railLossLease k = (((s.takeDestination k (l.policy.destination .railLost)).markRailLost k).postLease k
      (l.policy.destination .railLost).event).handPool
        (.fault l.terminal .railLost (l.policy.destination .railLost).isClosed) := by
  have hfault : s.railLossLease k = s.faultLease k .railLost := by
    obtain ⟨ph, hst⟩ | hst | ⟨st, u, hst⟩ := hst <;> simp only [railLossLease, hl, hst]
  rw [hfault]
  simp only [faultLease, hl, if_true]

theorem railLossLease_rampdown {dest : Destination} (hst : l.state = .rampdown dest) :
    s.railLossLease k = ((s.takeDestination k dest).markRailLost k).postLease k dest.event := by
  simp only [railLossLease, hl, hst]

theorem railLossLease_suspended {why : SuspendReason} (hst : l.state = .suspended why) :
    s.railLossLease k = s.putLease k { l with railLost := true } := by
  simp only [railLossLease, hl, hst, markRailLost_eq hl]

theorem railLossLease_idle (hst : (∃ n u, l.state = .waiting n u) ∨ ∃ why, l.state = .closed why) :
    s.railLossLease k = s := by
  obtain ⟨n, u, hst⟩ | ⟨why, hst⟩ := hst <;> simp only [railLossLease, hl, hst]

theorem givesBack_suspended_iff (why : SuspendReason) :
    s.givesBack k (.suspended why) = true ↔ ∃ a e, l.alloc = some a ∧ e ∈ a.cells ∧ e.leaving = true := by
  simp only [givesBack_suspended hl, leavingCells_ne_nil, exists_and_left]

theorem givesBack_policy_iff : s.givesBack k (l.policy.destination .railLost) = true ↔
    l.policy = .close ∨ ∃ a e, l.alloc = some a ∧ e ∈ a.cells ∧ e.leaving = true := by
  cases hp : l.policy with
  | suspend => simpa [FaultPolicy.destination] using givesBack_suspended_iff hl _
  | close => simp [FaultPolicy.destination, givesBack_closed]

theorem railLossGivesBack_iff : s.railLossGivesBack k = true ↔
    (((∃ ph, l.state = .starting ph) ∨ l.state = .verifying ∨ ∃ st u, l.state = .active st u) ∧
      (l.policy = .close ∨ ∃ a e, l.alloc = some a ∧ e ∈ a.cells ∧ e.leaving = true)) ∨
    (∃ why, l.state = .rampdown (.closed why)) ∨
    ((∃ why, l.state = .rampdown (.suspended why)) ∧ ∃ a e, l.alloc = some a ∧ e ∈ a.cells ∧ e.leaving = true) := by
  have hpolicy := givesBack_policy_iff hl
  simp only [railLossGivesBack, hl]
  cases hst : l.state with
  | starting | verifying | active => simpa using hpolicy
  | rampdown dest =>
    cases dest with
    | suspended why => simpa using givesBack_suspended_iff hl why
    | closed why => simp [givesBack_closed]
  | waiting | suspended | closed => simp

end

/-! ## Rail-good seen high and low (R37 to R41) -/

/-- The level on a bank's rail-good line as last seen, and the state the bank goes to. -/
def railSeen (s : State) (b : Fin 4) (good : Bool) (st : BankState) : State :=
  s.setBank b { s.bank b with railGood := good, state := st }

section
variable {s : State} {b : Fin 4}

theorem railGoodRise_waking {w : Nat} (hst : (s.bank b).state = .waking w) :
    s.railGoodRise b = (s.setRailGood b true).enterOn b := by
  simp only [railGoodRise, hst]

theorem railGoodRise_waking_demand {w : Nat} (hst : (s.bank b).state = .waking w)
    (h : (s.bank b).driving + (s.bank b).claims ≠ 0) : s.railGoodRise b = (s.railSeen b true .on).handBankOn b := by
  rw [railGoodRise_waking hst, enterOn_of_demand (by simpa [setRailGood] using h)]
  simp [setRailGood, railSeen]

theorem railGoodRise_waking_no_demand {w : Nat} (hst : (s.bank b).state = .waking w)
    (h : (s.bank b).driving + (s.bank b).claims = 0) : s.railGoodRise b = s.railSeen b true (s.restState b) := by
  rw [railGoodRise_waking hst, enterOn_of_no_demand (by simpa [setRailGood] using h)]
  simp [setRailGood, railSeen, restState]

theorem railGoodRise_testing {w : Nat} (hst : (s.bank b).state = .testing (some w)) :
    s.railGoodRise b = (s.railSeen b true (.testing none)).railUpNotice b := by
  simp [railGoodRise, hst, setRailGood, railSeen, moveBank_eq]

theorem railGoodRise_noted (h : ((s.bank b).state = .on ∨ (∃ n u, (s.bank b).state = .linger n u) ∨ (s.bank b).state = .testing none) ∨
    (s.bank b).state = .off ∨ (s.bank b).state = .disabled ∨ (s.bank b).state = .faulted) :
    s.railGoodRise b = s.railSeen b true (s.bank b).state := by
  obtain (hst | ⟨n, u, hst⟩ | hst) | hst | hst | hst := h
  all_goals
    simp only [railGoodRise, setRailGood, railSeen, hst]

theorem railGoodFall_lost (h : (s.bank b).state = .on ∨ (∃ n u, (s.bank b).state = .linger n u) ∨ (s.bank b).state = .testing none) :
    s.railGoodFall b = (s.railSeen b false (s.bank b).state).railLoss b := by
  obtain hst | ⟨n, u, hst⟩ | hst := h
  all_goals
    simp only [railGoodFall, setRailGood, railSeen, hst]

theorem railGoodFall_noted (h : (∃ w, (s.bank b).state = .waking w) ∨ (∃ w, (s.bank b).state = .testing (some w)) ∨
    (s.bank b).state = .off ∨ (s.bank b).state = .disabled ∨ (s.bank b).state = .faulted) :
    s.railGoodFall b = s.railSeen b false (s.bank b).state := by
  obtain ⟨w, hst⟩ | ⟨w, hst⟩ | hst | hst | hst := h
  all_goals
    simp only [railGoodFall, setRailGood, railSeen, hst]

theorem wakeTimeout_lost (h : (∃ w, (s.bank b).state = .waking w) ∨ ∃ w, (s.bank b).state = .testing (some w)) :
    s.wakeTimeout b = s.railLoss b := by
  obtain ⟨w, hst⟩ | ⟨w, hst⟩ := h <;> simp only [wakeTimeout, hst]

theorem wakeTimeout_idle (h : ((s.bank b).state = .on ∨ (∃ n u, (s.bank b).state = .linger n u) ∨ (s.bank b).state = .testing none) ∨
    (s.bank b).state = .off ∨ (s.bank b).state = .disabled ∨ (s.bank b).state = .faulted) : s.wakeTimeout b = s := by
  obtain (hst | ⟨n, u, hst⟩ | hst) | hst | hst | hst := h <;> simp only [wakeTimeout, hst]

end
end State

/-- Settles O54: each edge by the state of the bank; a bank that rail loss has made FAULTED stays dark through the rest of the act. -/
theorem railGoodAndRailLoss : Obligations.RailGoodAndRailLoss := by
  unfold Obligations.RailGoodAndRailLoss
  refine ⟨fun s b => ⟨fun w hst => ?waking, fun w hst => ?testing, fun hst => ?railUp, fun hst => ?railDown⟩, fun s b => ?loss,
    fun s b => ⟨loseTest_other, fun r hr hb => ?test⟩, fun s n => rfl, fun s k l hl => ?lease⟩
  case waking =>
    exact ⟨fun h => next_driveOutputs (railGoodRise_waking_demand hst h),
      fun h => next_driveOutputs (railGoodRise_waking_no_demand hst h),
      next_driveOutputs (railGoodFall_noted (.inl ⟨w, hst⟩)), next_driveOutputs (wakeTimeout_lost (.inl ⟨w, hst⟩))⟩
  case testing =>
    exact ⟨next_driveOutputs (railGoodRise_testing hst), next_driveOutputs (railGoodFall_noted (.inr (.inl ⟨w, hst⟩))),
      next_driveOutputs (wakeTimeout_lost (.inr ⟨w, hst⟩))⟩
  case railUp =>
    exact ⟨next_driveOutputs (railGoodRise_noted (.inl hst)), next_driveOutputs (railGoodFall_lost hst),
      next_driveOutputs (wakeTimeout_idle (.inl hst))⟩
  case railDown =>
    exact ⟨next_driveOutputs (railGoodRise_noted (.inr hst)), next_driveOutputs (railGoodFall_noted (.inr (.inr hst))),
      next_driveOutputs (wakeTimeout_idle (.inr hst))⟩
  case loss =>
    obtain ⟨hfaulted, hcodes⟩ := dark_railLoss s b
    exact ⟨railLoss_eq s b, rfl, rfl, isTesting_iff, fun c => ⟨rfl, mem_cellsOf.trans bankOf_eq_iff⟩,
      fun u => ⟨zeroCodes_codes_only u _, fun c => by simp⟩, fun u => rfl, fun k => mem_leasesOn, pairwise_leasesOn s b,
      hfaulted, hcodes⟩
  case test =>
    intro u e isUnder
    let ended : State := { s.stopTest r with selfTest := none }
    have hu : u = ended.postEdge .s .testDone := loseTest_eq hr hb
    have hframe : u = { ended with seatCtl := { ended.seatCtl with seats := u.seatCtl.seats } } := by
      rw [hu]
      exact postEdge_seats_only _ _ _
    have hseat (y : Seat) : ended.seat y = s.seat y := by
      have hctl : (s.stopTest r).seatCtl = s.seatCtl := by rw [stopTest_cells_only]
      rw [seat, seat, ← hctl]
    have hdrive (c : Fin 24) : u.drive c = (s.stopTest r).drive c := by rw [hframe]; rfl
    have hcell (c : Fin 24) : u.cell c = (s.stopTest r).cell c := by rw [hframe]; rfl
    refine ⟨?_, fun y hy => ?_, ?_, fun c => ?_⟩
    · have hstop := stopTest_cells_only s r
      rw [hframe]
      simp only [ended]
      rw [hstop]
    · rw [hu, seat_postEdge, if_neg (fun h => hy h.1.symm), hseat]
    · rw [hu, seat_postEdge, hseat]
      simp only [true_and]
      rfl
    · obtain ⟨hunder, hother, hroute, hstate⟩ := cell_stopTest s r c
      rw [hdrive, hcell]
      exact ⟨fun h => ⟨drive_stopTest_under h, hunder h⟩, fun h => ⟨drive_stopTest_other h, hother h⟩, hroute, hstate⟩
  case lease =>
    intro stopsByFault leaving
    refine ⟨railLossGivesBack_iff hl, fun hst hp => ?_, fun hst hp => ?_, markRailLost_eq hl, fun why hst => ?_,
      fun why hst => ?_, fun why hst => railLossLease_suspended hl hst, fun hst => railLossLease_idle hl hst⟩
    · rw [railLossLease_fault hl hst, hp, FaultPolicy.destination, takeDestination, Destination.event, Destination.isClosed]
    · rw [railLossLease_fault hl hst, hp, FaultPolicy.destination, takeDestination, Destination.event, Destination.isClosed]
    · rw [railLossLease_rampdown hl hst, takeDestination, Destination.event]
    · rw [railLossLease_rampdown hl hst, takeDestination, Destination.event]

end Sys2Proof.Machine
end
